-- ==== Sys2Proof/Word.lean ====
section
/-!
DEFINITION. The machine's word types (00_scope.md R6, R9): every register byte and every memory cell is 8 bits,
addresses and register pairs are 16 bits. All arithmetic on them is the wrapping arithmetic of `BitVec`
(10_state.md R32, decision D6).
-/

namespace Sys2Proof

/-- `u8` of R9: one register, one memory cell, one I/O register. -/
abbrev Byte := BitVec 8

/-- `u16` of R9: a register pair, SP, PC, an address. -/
abbrev Word := BitVec 16

end Sys2Proof
end

