-- ==== Sys2Proof/Machine/Bits.lean ====
section
/-!
DEFINITION. Bit fields, byte order and sign extension, written once (00_scope.md R8, R9, R12; 20_memory.md R100).
The decoder and every meaning use these and no other.
-/

namespace Sys2Proof.Machine

/-- `w[15:8]`, the high half of a 16-bit value (R8). -/
def hiByte (w : Word) : Byte := w.extractLsb' 8 8

/-- `w[7:0]`, the low half of a 16-bit value (R8). -/
def loByte (w : Word) : Byte := w.extractLsb' 0 8

/-- `{hi, lo}`: concatenation, the first argument in the upper bits (R8). Little-endian words in memory and in the
instruction stream are assembled by passing the byte at the higher address first (R12, R100). -/
def mkWord (hi lo : Byte) : Word := hi ++ lo

/-- `sext_16(e)` (R9): the signed displacement `e8` widened to 16 bits. -/
def sext16 (e : Byte) : Word := e.signExtend 16

/-- `v[hi:lo]` with `len = hi - lo + 1` (R8). -/
def field {n : Nat} (v : BitVec n) (lo len : Nat) : BitVec len := v.extractLsb' lo len

/-- `v[i]` (R8). -/
def bitOf (v : Byte) (i : Nat) : Bool := v.getLsbD i

/-- A single bit as the number 0 or 1, for the sums of the carry rules (R239 `cin`). -/
def bitNat (b : Bool) : Nat := if b then 1 else 0

/-- A single bit as a byte, 0x00 or 0x01. -/
def bitByte (b : Bool) : Byte := if b then 1 else 0

/-- `trunc_8` of an unbounded sum (R9). -/
def trunc8 (n : Nat) : Byte := BitVec.ofNat 8 n

/-- `trunc_16` of an unbounded sum (R9). -/
def trunc16 (n : Nat) : Word := BitVec.ofNat 16 n

end Sys2Proof.Machine
end

