-- ==== Sys2Proof/Syntax.lean ====
section
/-!
DEFINITION. The instructions: one constructor per row of the opcode table (30_encoding.md R172-R178), operands being
the immediate of the row's format (R160, R170). A constructor's name is its mnemonic with `Mem` for parentheses:
`ldBC` is LD B,C; `ldBCd16` is LD BC,d16; `ldMemBCA` is LD (BC),A; `ldMemHLIncA` is LD (HL+),A; `ldAMemC` is LD A,(C).
The table's row "PREFIX CB" (first byte of every CB row) is `prefixCB`, carrying the second byte; its words are those
of the CB instruction that byte names, and the decoder gives that instruction (log 7). The eleven illegal bytes are
rows of their own (R178).
-/

namespace Sys2Proof

/-- The instructions of the core. -/
inductive Instr where
  /- instructions with an immediate (and the CB prefix) -/
  /- 40_load.md -/
  /-- LD BC,d16 (R220) -/
  | ldBCd16 (w : Word)
  /-- LD B,d8 (R201) -/
  | ldBd8 (n : Byte)
  /-- LD (a16),SP (R222) -/
  | ldMemA16SP (w : Word)
  /-- LD C,d8 (R201) -/
  | ldCd8 (n : Byte)
  /-- LD DE,d16 (R220) -/
  | ldDEd16 (w : Word)
  /-- LD D,d8 (R201) -/
  | ldDd8 (n : Byte)
  /-- LD E,d8 (R201) -/
  | ldEd8 (n : Byte)
  /-- LD HL,d16 (R220) -/
  | ldHLd16 (w : Word)
  /-- LD H,d8 (R201) -/
  | ldHd8 (n : Byte)
  /-- LD L,d8 (R201) -/
  | ldLd8 (n : Byte)
  /-- LD SP,d16 (R220) -/
  | ldSPd16 (w : Word)
  /-- LD (HL),d8 (R204) -/
  | ldMemHLd8 (n : Byte)
  /-- LD A,d8 (R201) -/
  | ldAd8 (n : Byte)
  /-- LDH (a8),A (R213) -/
  | ldhMemA8A (n : Byte)
  /-- LD (a16),A (R208) -/
  | ldMemA16A (w : Word)
  /-- LDH A,(a8) (R212) -/
  | ldhAMemA8 (n : Byte)
  /-- LD A,(a16) (R207) -/
  | ldAMemA16 (w : Word)
  /- 41_alu8.md -/
  /-- ADD A,d8 (R240) -/
  | addAd8 (n : Byte)
  /-- ADC A,d8 (R241) -/
  | adcAd8 (n : Byte)
  /-- SUB A,d8 (R242) -/
  | subAd8 (n : Byte)
  /-- SBC A,d8 (R243) -/
  | sbcAd8 (n : Byte)
  /-- AND A,d8 (R244) -/
  | andAd8 (n : Byte)
  /-- XOR A,d8 (R245) -/
  | xorAd8 (n : Byte)
  /-- OR A,d8 (R246) -/
  | orAd8 (n : Byte)
  /-- CP A,d8 (R247) -/
  | cpAd8 (n : Byte)
  /- 42_alu16.md -/
  /-- ADD SP,e8 (R273) -/
  | addSPe8 (e : Byte)
  /-- LD HL,SP+e8 (R274) -/
  | ldHLSPe8 (e : Byte)
  /- 44_control.md -/
  /-- JR e8 (R323) -/
  | jrE8 (e : Byte)
  /-- JR NZ,e8 (R324) -/
  | jrNZe8 (e : Byte)
  /-- JR Z,e8 (R324) -/
  | jrZe8 (e : Byte)
  /-- JR NC,e8 (R324) -/
  | jrNCe8 (e : Byte)
  /-- JR C,e8 (R324) -/
  | jrCe8 (e : Byte)
  /-- JP NZ,a16 (R321) -/
  | jpNZA16 (w : Word)
  /-- JP a16 (R320) -/
  | jpA16 (w : Word)
  /-- CALL NZ,a16 (R326) -/
  | callNZA16 (w : Word)
  /-- JP Z,a16 (R321) -/
  | jpZA16 (w : Word)
  /-- CALL Z,a16 (R326) -/
  | callZA16 (w : Word)
  /-- CALL a16 (R325) -/
  | callA16 (w : Word)
  /-- JP NC,a16 (R321) -/
  | jpNCA16 (w : Word)
  /-- CALL NC,a16 (R326) -/
  | callNCA16 (w : Word)
  /-- JP C,a16 (R321) -/
  | jpCA16 (w : Word)
  /-- CALL C,a16 (R326) -/
  | callCA16 (w : Word)
  /- 45_system.md -/
  /-- STOP (R352) -/
  | stop (n : Byte)
  /- 30_encoding.md R177 -/
  /-- PREFIX CB (R177) -/
  | prefixCB (c : Byte)
  /- instructions without one -/
  /- 40_load.md -/
  /-- LD (BC),A (R210) -/
  | ldMemBCA
  /-- LD A,(BC) (R209) -/
  | ldAMemBC
  /-- LD (DE),A (R210) -/
  | ldMemDEA
  /-- LD A,(DE) (R209) -/
  | ldAMemDE
  /-- LD (HL+),A (R216) -/
  | ldMemHLIncA
  /-- LD A,(HL+) (R218) -/
  | ldAMemHLInc
  /-- LD (HL-),A (R217) -/
  | ldMemHLDecA
  /-- LD A,(HL-) (R219) -/
  | ldAMemHLDec
  /-- LD B,B (R200) -/
  | ldBB
  /-- LD B,C (R200) -/
  | ldBC
  /-- LD B,D (R200) -/
  | ldBD
  /-- LD B,E (R200) -/
  | ldBE
  /-- LD B,H (R200) -/
  | ldBH
  /-- LD B,L (R200) -/
  | ldBL
  /-- LD B,(HL) (R202) -/
  | ldBMemHL
  /-- LD B,A (R200) -/
  | ldBA
  /-- LD C,B (R200) -/
  | ldCB
  /-- LD C,C (R200) -/
  | ldCC
  /-- LD C,D (R200) -/
  | ldCD
  /-- LD C,E (R200) -/
  | ldCE
  /-- LD C,H (R200) -/
  | ldCH
  /-- LD C,L (R200) -/
  | ldCL
  /-- LD C,(HL) (R202) -/
  | ldCMemHL
  /-- LD C,A (R200) -/
  | ldCA
  /-- LD D,B (R200) -/
  | ldDB
  /-- LD D,C (R200) -/
  | ldDC
  /-- LD D,D (R200) -/
  | ldDD
  /-- LD D,E (R200) -/
  | ldDE
  /-- LD D,H (R200) -/
  | ldDH
  /-- LD D,L (R200) -/
  | ldDL
  /-- LD D,(HL) (R202) -/
  | ldDMemHL
  /-- LD D,A (R200) -/
  | ldDA
  /-- LD E,B (R200) -/
  | ldEB
  /-- LD E,C (R200) -/
  | ldEC
  /-- LD E,D (R200) -/
  | ldED
  /-- LD E,E (R200) -/
  | ldEE
  /-- LD E,H (R200) -/
  | ldEH
  /-- LD E,L (R200) -/
  | ldEL
  /-- LD E,(HL) (R202) -/
  | ldEMemHL
  /-- LD E,A (R200) -/
  | ldEA
  /-- LD H,B (R200) -/
  | ldHB
  /-- LD H,C (R200) -/
  | ldHC
  /-- LD H,D (R200) -/
  | ldHD
  /-- LD H,E (R200) -/
  | ldHE
  /-- LD H,H (R200) -/
  | ldHH
  /-- LD H,L (R200) -/
  | ldHL
  /-- LD H,(HL) (R202) -/
  | ldHMemHL
  /-- LD H,A (R200) -/
  | ldHA
  /-- LD L,B (R200) -/
  | ldLB
  /-- LD L,C (R200) -/
  | ldLC
  /-- LD L,D (R200) -/
  | ldLD
  /-- LD L,E (R200) -/
  | ldLE
  /-- LD L,H (R200) -/
  | ldLH
  /-- LD L,L (R200) -/
  | ldLL
  /-- LD L,(HL) (R202) -/
  | ldLMemHL
  /-- LD L,A (R200) -/
  | ldLA
  /-- LD (HL),B (R203) -/
  | ldMemHLB
  /-- LD (HL),C (R203) -/
  | ldMemHLC
  /-- LD (HL),D (R203) -/
  | ldMemHLD
  /-- LD (HL),E (R203) -/
  | ldMemHLE
  /-- LD (HL),H (R203) -/
  | ldMemHLH
  /-- LD (HL),L (R203) -/
  | ldMemHLL
  /-- LD (HL),A (R203) -/
  | ldMemHLA
  /-- LD A,B (R200) -/
  | ldAB
  /-- LD A,C (R200) -/
  | ldAC
  /-- LD A,D (R200) -/
  | ldAD
  /-- LD A,E (R200) -/
  | ldAE
  /-- LD A,H (R200) -/
  | ldAH
  /-- LD A,L (R200) -/
  | ldAL
  /-- LD A,(HL) (R202) -/
  | ldAMemHL
  /-- LD A,A (R200) -/
  | ldAA
  /-- POP BC (R224) -/
  | popBC
  /-- PUSH BC (R223) -/
  | pushBC
  /-- POP DE (R224) -/
  | popDE
  /-- PUSH DE (R223) -/
  | pushDE
  /-- POP HL (R224) -/
  | popHL
  /-- LD (C),A (R215) -/
  | ldMemCA
  /-- PUSH HL (R223) -/
  | pushHL
  /-- POP AF (R225) -/
  | popAF
  /-- LD A,(C) (R214) -/
  | ldAMemC
  /-- PUSH AF (R223) -/
  | pushAF
  /-- LD SP,HL (R221) -/
  | ldSPHL
  /- 41_alu8.md -/
  /-- INC B (R248) -/
  | incB
  /-- DEC B (R250) -/
  | decB
  /-- INC C (R248) -/
  | incC
  /-- DEC C (R250) -/
  | decC
  /-- INC D (R248) -/
  | incD
  /-- DEC D (R250) -/
  | decD
  /-- INC E (R248) -/
  | incE
  /-- DEC E (R250) -/
  | decE
  /-- INC H (R248) -/
  | incH
  /-- DEC H (R250) -/
  | decH
  /-- DAA (R252) -/
  | daa
  /-- INC L (R248) -/
  | incL
  /-- DEC L (R250) -/
  | decL
  /-- CPL (R253) -/
  | cpl
  /-- INC (HL) (R249) -/
  | incMemHL
  /-- DEC (HL) (R251) -/
  | decMemHL
  /-- SCF (R254) -/
  | scf
  /-- INC A (R248) -/
  | incA
  /-- DEC A (R250) -/
  | decA
  /-- CCF (R255) -/
  | ccf
  /-- ADD A,B (R240) -/
  | addAB
  /-- ADD A,C (R240) -/
  | addAC
  /-- ADD A,D (R240) -/
  | addAD
  /-- ADD A,E (R240) -/
  | addAE
  /-- ADD A,H (R240) -/
  | addAH
  /-- ADD A,L (R240) -/
  | addAL
  /-- ADD A,(HL) (R240) -/
  | addAMemHL
  /-- ADD A,A (R240) -/
  | addAA
  /-- ADC A,B (R241) -/
  | adcAB
  /-- ADC A,C (R241) -/
  | adcAC
  /-- ADC A,D (R241) -/
  | adcAD
  /-- ADC A,E (R241) -/
  | adcAE
  /-- ADC A,H (R241) -/
  | adcAH
  /-- ADC A,L (R241) -/
  | adcAL
  /-- ADC A,(HL) (R241) -/
  | adcAMemHL
  /-- ADC A,A (R241) -/
  | adcAA
  /-- SUB A,B (R242) -/
  | subAB
  /-- SUB A,C (R242) -/
  | subAC
  /-- SUB A,D (R242) -/
  | subAD
  /-- SUB A,E (R242) -/
  | subAE
  /-- SUB A,H (R242) -/
  | subAH
  /-- SUB A,L (R242) -/
  | subAL
  /-- SUB A,(HL) (R242) -/
  | subAMemHL
  /-- SUB A,A (R242) -/
  | subAA
  /-- SBC A,B (R243) -/
  | sbcAB
  /-- SBC A,C (R243) -/
  | sbcAC
  /-- SBC A,D (R243) -/
  | sbcAD
  /-- SBC A,E (R243) -/
  | sbcAE
  /-- SBC A,H (R243) -/
  | sbcAH
  /-- SBC A,L (R243) -/
  | sbcAL
  /-- SBC A,(HL) (R243) -/
  | sbcAMemHL
  /-- SBC A,A (R243) -/
  | sbcAA
  /-- AND A,B (R244) -/
  | andAB
  /-- AND A,C (R244) -/
  | andAC
  /-- AND A,D (R244) -/
  | andAD
  /-- AND A,E (R244) -/
  | andAE
  /-- AND A,H (R244) -/
  | andAH
  /-- AND A,L (R244) -/
  | andAL
  /-- AND A,(HL) (R244) -/
  | andAMemHL
  /-- AND A,A (R244) -/
  | andAA
  /-- XOR A,B (R245) -/
  | xorAB
  /-- XOR A,C (R245) -/
  | xorAC
  /-- XOR A,D (R245) -/
  | xorAD
  /-- XOR A,E (R245) -/
  | xorAE
  /-- XOR A,H (R245) -/
  | xorAH
  /-- XOR A,L (R245) -/
  | xorAL
  /-- XOR A,(HL) (R245) -/
  | xorAMemHL
  /-- XOR A,A (R245) -/
  | xorAA
  /-- OR A,B (R246) -/
  | orAB
  /-- OR A,C (R246) -/
  | orAC
  /-- OR A,D (R246) -/
  | orAD
  /-- OR A,E (R246) -/
  | orAE
  /-- OR A,H (R246) -/
  | orAH
  /-- OR A,L (R246) -/
  | orAL
  /-- OR A,(HL) (R246) -/
  | orAMemHL
  /-- OR A,A (R246) -/
  | orAA
  /-- CP A,B (R247) -/
  | cpAB
  /-- CP A,C (R247) -/
  | cpAC
  /-- CP A,D (R247) -/
  | cpAD
  /-- CP A,E (R247) -/
  | cpAE
  /-- CP A,H (R247) -/
  | cpAH
  /-- CP A,L (R247) -/
  | cpAL
  /-- CP A,(HL) (R247) -/
  | cpAMemHL
  /-- CP A,A (R247) -/
  | cpAA
  /- 42_alu16.md -/
  /-- INC BC (R271) -/
  | incBC
  /-- ADD HL,BC (R270) -/
  | addHLBC
  /-- DEC BC (R272) -/
  | decBC
  /-- INC DE (R271) -/
  | incDE
  /-- ADD HL,DE (R270) -/
  | addHLDE
  /-- DEC DE (R272) -/
  | decDE
  /-- INC HL (R271) -/
  | incHL
  /-- ADD HL,HL (R270) -/
  | addHLHL
  /-- DEC HL (R272) -/
  | decHL
  /-- INC SP (R271) -/
  | incSP
  /-- ADD HL,SP (R270) -/
  | addHLSP
  /-- DEC SP (R272) -/
  | decSP
  /- 43_rotate_bit.md (accumulator and CB rotates) -/
  /-- RLCA (R290) -/
  | rlca
  /-- RRCA (R291) -/
  | rrca
  /-- RLA (R292) -/
  | rla
  /-- RRA (R293) -/
  | rra
  | rlcB
  | rlcC
  | rlcD
  | rlcE
  | rlcH
  | rlcL
  | rlcMemHL
  | rlcA
  | rrcB
  | rrcC
  | rrcD
  | rrcE
  | rrcH
  | rrcL
  | rrcMemHL
  | rrcA
  | rlB
  | rlC
  | rlD
  | rlE
  | rlH
  | rlL
  | rlMemHL
  | rlA
  | rrB
  | rrC
  | rrD
  | rrE
  | rrH
  | rrL
  | rrMemHL
  | rrA
  | slaB
  | slaC
  | slaD
  | slaE
  | slaH
  | slaL
  | slaMemHL
  | slaA
  | sraB
  | sraC
  | sraD
  | sraE
  | sraH
  | sraL
  | sraMemHL
  | sraA
  | swapB
  | swapC
  | swapD
  | swapE
  | swapH
  | swapL
  | swapMemHL
  | swapA
  | srlB
  | srlC
  | srlD
  | srlE
  | srlH
  | srlL
  | srlMemHL
  | srlA
  /- 43_rotate_bit.md (BIT, RES, SET) -/
  | bit0B
  | bit0C
  | bit0D
  | bit0E
  | bit0H
  | bit0L
  | bit0MemHL
  | bit0A
  | bit1B
  | bit1C
  | bit1D
  | bit1E
  | bit1H
  | bit1L
  | bit1MemHL
  | bit1A
  | bit2B
  | bit2C
  | bit2D
  | bit2E
  | bit2H
  | bit2L
  | bit2MemHL
  | bit2A
  | bit3B
  | bit3C
  | bit3D
  | bit3E
  | bit3H
  | bit3L
  | bit3MemHL
  | bit3A
  | bit4B
  | bit4C
  | bit4D
  | bit4E
  | bit4H
  | bit4L
  | bit4MemHL
  | bit4A
  | bit5B
  | bit5C
  | bit5D
  | bit5E
  | bit5H
  | bit5L
  | bit5MemHL
  | bit5A
  | bit6B
  | bit6C
  | bit6D
  | bit6E
  | bit6H
  | bit6L
  | bit6MemHL
  | bit6A
  | bit7B
  | bit7C
  | bit7D
  | bit7E
  | bit7H
  | bit7L
  | bit7MemHL
  | bit7A
  | res0B
  | res0C
  | res0D
  | res0E
  | res0H
  | res0L
  | res0MemHL
  | res0A
  | res1B
  | res1C
  | res1D
  | res1E
  | res1H
  | res1L
  | res1MemHL
  | res1A
  | res2B
  | res2C
  | res2D
  | res2E
  | res2H
  | res2L
  | res2MemHL
  | res2A
  | res3B
  | res3C
  | res3D
  | res3E
  | res3H
  | res3L
  | res3MemHL
  | res3A
  | res4B
  | res4C
  | res4D
  | res4E
  | res4H
  | res4L
  | res4MemHL
  | res4A
  | res5B
  | res5C
  | res5D
  | res5E
  | res5H
  | res5L
  | res5MemHL
  | res5A
  | res6B
  | res6C
  | res6D
  | res6E
  | res6H
  | res6L
  | res6MemHL
  | res6A
  | res7B
  | res7C
  | res7D
  | res7E
  | res7H
  | res7L
  | res7MemHL
  | res7A
  | set0B
  | set0C
  | set0D
  | set0E
  | set0H
  | set0L
  | set0MemHL
  | set0A
  | set1B
  | set1C
  | set1D
  | set1E
  | set1H
  | set1L
  | set1MemHL
  | set1A
  | set2B
  | set2C
  | set2D
  | set2E
  | set2H
  | set2L
  | set2MemHL
  | set2A
  | set3B
  | set3C
  | set3D
  | set3E
  | set3H
  | set3L
  | set3MemHL
  | set3A
  | set4B
  | set4C
  | set4D
  | set4E
  | set4H
  | set4L
  | set4MemHL
  | set4A
  | set5B
  | set5C
  | set5D
  | set5E
  | set5H
  | set5L
  | set5MemHL
  | set5A
  | set6B
  | set6C
  | set6D
  | set6E
  | set6H
  | set6L
  | set6MemHL
  | set6A
  | set7B
  | set7C
  | set7D
  | set7E
  | set7H
  | set7L
  | set7MemHL
  | set7A
  /- 44_control.md -/
  /-- RET NZ (R328) -/
  | retNZ
  /-- RST 0x00 (R331) -/
  | rst00
  /-- RET Z (R328) -/
  | retZ
  /-- RET (R327) -/
  | ret
  /-- RST 0x08 (R331) -/
  | rst08
  /-- RET NC (R328) -/
  | retNC
  /-- RST 0x10 (R331) -/
  | rst10
  /-- RET C (R328) -/
  | retC
  /-- RETI (R329) -/
  | reti
  /-- RST 0x18 (R331) -/
  | rst18
  /-- RST 0x20 (R331) -/
  | rst20
  /-- JP HL (R322) -/
  | jpHL
  /-- RST 0x28 (R331) -/
  | rst28
  /-- RST 0x30 (R331) -/
  | rst30
  /-- RST 0x38 (R331) -/
  | rst38
  /- 45_system.md -/
  /-- NOP (R350) -/
  | nop
  /-- HALT (R351) -/
  | halt
  /-- ILLEGAL 0xD3 (R355) -/
  | illegalD3
  /-- ILLEGAL 0xDB (R355) -/
  | illegalDB
  /-- ILLEGAL 0xDD (R355) -/
  | illegalDD
  /-- ILLEGAL 0xE3 (R355) -/
  | illegalE3
  /-- ILLEGAL 0xE4 (R355) -/
  | illegalE4
  /-- ILLEGAL 0xEB (R355) -/
  | illegalEB
  /-- ILLEGAL 0xEC (R355) -/
  | illegalEC
  /-- ILLEGAL 0xED (R355) -/
  | illegalED
  /-- DI (R353) -/
  | di
  /-- ILLEGAL 0xF4 (R355) -/
  | illegalF4
  /-- EI (R354) -/
  | ei
  /-- ILLEGAL 0xFC (R355) -/
  | illegalFC
  /-- ILLEGAL 0xFD (R355) -/
  | illegalFD
  deriving DecidableEq, Repr

end Sys2Proof
end

