-- ==== Sys2Proof/WellFormed.lean ====
section
/-!
DEFINITION. Which terms of `Instr` are instructions. Every immediate's width is in its type and every byte pattern of
the table is a row (30_encoding.md R177-R179), so one check is left: the table's row "PREFIX CB" names the first byte
of the CB rows, not an instruction of its own. Its two bytes are those of the CB instruction its second byte names.
-/

namespace Sys2Proof

/-- The term is a second spelling of another row's words (R177). -/
def Instr.isPrefixRow (i : Instr) : Bool :=
  match i with
  | .prefixCB _ => true
  | _ => false

/-- A term the decoder can give. -/
def Instr.wellFormed (i : Instr) : Bool := !i.isPrefixRow

end Sys2Proof
end

