-- ==== Sys2Proof/Decode.lean ====
section
/-!
DEFINITION. The decoder (30_encoding.md R172-R180), total on any list of bytes, and the encoder.

The decoder looks the opcode byte up in the table of spec/opcode_table.json (row by row, by the byte's value). The
encoder composes the opcode byte from the fields x, y and z of R161 and R162. That the two agree is a statement about
two descriptions the spec gives, not about one text copied twice.
-/

namespace Sys2Proof

/-- Why bytes are rejected. -/
inductive DecodeError where
  /-- there is no opcode byte -/
  | noOpcode
  /-- the bytes end before the instruction does (R160, R175) -/
  | truncated
  /-- the table has no row for the byte: it never happens, all 256 bytes have one -/
  | noRow
  deriving DecidableEq, Repr

/-- What decoding answers: the instruction and the bytes after it, or the reason the bytes are rejected. -/
inductive DecodeResult where
  | instr (i : Instr) (rest : List Byte)
  | reject (e : DecodeError)
  deriving DecidableEq, Repr

/-- A row of the opcode table, by format (R160): what follows the opcode byte. -/
inductive OpRow where
  | op (i : Instr)
  | d8 (f : Byte → Instr)
  | d16 (f : Word → Instr)
  | cb

/-- Opcode bytes 0x00..0x0F. -/
def opRows0 : List OpRow :=
  [.op .nop, .d16 .ldBCd16, .op .ldMemBCA, .op .incBC,
   .op .incB, .op .decB, .d8 .ldBd8, .op .rlca,
   .d16 .ldMemA16SP, .op .addHLBC, .op .ldAMemBC, .op .decBC,
   .op .incC, .op .decC, .d8 .ldCd8, .op .rrca]

/-- Opcode bytes 0x10..0x1F. -/
def opRows1 : List OpRow :=
  [.d8 .stop, .d16 .ldDEd16, .op .ldMemDEA, .op .incDE,
   .op .incD, .op .decD, .d8 .ldDd8, .op .rla,
   .d8 .jrE8, .op .addHLDE, .op .ldAMemDE, .op .decDE,
   .op .incE, .op .decE, .d8 .ldEd8, .op .rra]

/-- Opcode bytes 0x20..0x2F. -/
def opRows2 : List OpRow :=
  [.d8 .jrNZe8, .d16 .ldHLd16, .op .ldMemHLIncA, .op .incHL,
   .op .incH, .op .decH, .d8 .ldHd8, .op .daa,
   .d8 .jrZe8, .op .addHLHL, .op .ldAMemHLInc, .op .decHL,
   .op .incL, .op .decL, .d8 .ldLd8, .op .cpl]

/-- Opcode bytes 0x30..0x3F. -/
def opRows3 : List OpRow :=
  [.d8 .jrNCe8, .d16 .ldSPd16, .op .ldMemHLDecA, .op .incSP,
   .op .incMemHL, .op .decMemHL, .d8 .ldMemHLd8, .op .scf,
   .d8 .jrCe8, .op .addHLSP, .op .ldAMemHLDec, .op .decSP,
   .op .incA, .op .decA, .d8 .ldAd8, .op .ccf]

/-- Opcode bytes 0x40..0x4F. -/
def opRows4 : List OpRow :=
  [.op .ldBB, .op .ldBC, .op .ldBD, .op .ldBE,
   .op .ldBH, .op .ldBL, .op .ldBMemHL, .op .ldBA,
   .op .ldCB, .op .ldCC, .op .ldCD, .op .ldCE,
   .op .ldCH, .op .ldCL, .op .ldCMemHL, .op .ldCA]

/-- Opcode bytes 0x50..0x5F. -/
def opRows5 : List OpRow :=
  [.op .ldDB, .op .ldDC, .op .ldDD, .op .ldDE,
   .op .ldDH, .op .ldDL, .op .ldDMemHL, .op .ldDA,
   .op .ldEB, .op .ldEC, .op .ldED, .op .ldEE,
   .op .ldEH, .op .ldEL, .op .ldEMemHL, .op .ldEA]

/-- Opcode bytes 0x60..0x6F. -/
def opRows6 : List OpRow :=
  [.op .ldHB, .op .ldHC, .op .ldHD, .op .ldHE,
   .op .ldHH, .op .ldHL, .op .ldHMemHL, .op .ldHA,
   .op .ldLB, .op .ldLC, .op .ldLD, .op .ldLE,
   .op .ldLH, .op .ldLL, .op .ldLMemHL, .op .ldLA]

/-- Opcode bytes 0x70..0x7F. -/
def opRows7 : List OpRow :=
  [.op .ldMemHLB, .op .ldMemHLC, .op .ldMemHLD, .op .ldMemHLE,
   .op .ldMemHLH, .op .ldMemHLL, .op .halt, .op .ldMemHLA,
   .op .ldAB, .op .ldAC, .op .ldAD, .op .ldAE,
   .op .ldAH, .op .ldAL, .op .ldAMemHL, .op .ldAA]

/-- Opcode bytes 0x80..0x8F. -/
def opRows8 : List OpRow :=
  [.op .addAB, .op .addAC, .op .addAD, .op .addAE,
   .op .addAH, .op .addAL, .op .addAMemHL, .op .addAA,
   .op .adcAB, .op .adcAC, .op .adcAD, .op .adcAE,
   .op .adcAH, .op .adcAL, .op .adcAMemHL, .op .adcAA]

/-- Opcode bytes 0x90..0x9F. -/
def opRows9 : List OpRow :=
  [.op .subAB, .op .subAC, .op .subAD, .op .subAE,
   .op .subAH, .op .subAL, .op .subAMemHL, .op .subAA,
   .op .sbcAB, .op .sbcAC, .op .sbcAD, .op .sbcAE,
   .op .sbcAH, .op .sbcAL, .op .sbcAMemHL, .op .sbcAA]

/-- Opcode bytes 0xA0..0xAF. -/
def opRowsA : List OpRow :=
  [.op .andAB, .op .andAC, .op .andAD, .op .andAE,
   .op .andAH, .op .andAL, .op .andAMemHL, .op .andAA,
   .op .xorAB, .op .xorAC, .op .xorAD, .op .xorAE,
   .op .xorAH, .op .xorAL, .op .xorAMemHL, .op .xorAA]

/-- Opcode bytes 0xB0..0xBF. -/
def opRowsB : List OpRow :=
  [.op .orAB, .op .orAC, .op .orAD, .op .orAE,
   .op .orAH, .op .orAL, .op .orAMemHL, .op .orAA,
   .op .cpAB, .op .cpAC, .op .cpAD, .op .cpAE,
   .op .cpAH, .op .cpAL, .op .cpAMemHL, .op .cpAA]

/-- Opcode bytes 0xC0..0xCF. -/
def opRowsC : List OpRow :=
  [.op .retNZ, .op .popBC, .d16 .jpNZA16, .d16 .jpA16,
   .d16 .callNZA16, .op .pushBC, .d8 .addAd8, .op .rst00,
   .op .retZ, .op .ret, .d16 .jpZA16, .cb,
   .d16 .callZA16, .d16 .callA16, .d8 .adcAd8, .op .rst08]

/-- Opcode bytes 0xD0..0xDF. -/
def opRowsD : List OpRow :=
  [.op .retNC, .op .popDE, .d16 .jpNCA16, .op .illegalD3,
   .d16 .callNCA16, .op .pushDE, .d8 .subAd8, .op .rst10,
   .op .retC, .op .reti, .d16 .jpCA16, .op .illegalDB,
   .d16 .callCA16, .op .illegalDD, .d8 .sbcAd8, .op .rst18]

/-- Opcode bytes 0xE0..0xEF. -/
def opRowsE : List OpRow :=
  [.d8 .ldhMemA8A, .op .popHL, .op .ldMemCA, .op .illegalE3,
   .op .illegalE4, .op .pushHL, .d8 .andAd8, .op .rst20,
   .d8 .addSPe8, .op .jpHL, .d16 .ldMemA16A, .op .illegalEB,
   .op .illegalEC, .op .illegalED, .d8 .xorAd8, .op .rst28]

/-- Opcode bytes 0xF0..0xFF. -/
def opRowsF : List OpRow :=
  [.d8 .ldhAMemA8, .op .popAF, .op .ldAMemC, .op .di,
   .op .illegalF4, .op .pushAF, .d8 .orAd8, .op .rst30,
   .d8 .ldHLSPe8, .op .ldSPHL, .d16 .ldAMemA16, .op .ei,
   .op .illegalFC, .op .illegalFD, .d8 .cpAd8, .op .rst38]

/-- The opcode table: sixteen rows of sixteen (R172-R174, R178). -/
def opTable : List (List OpRow) :=
  [opRows0, opRows1, opRows2, opRows3, opRows4, opRows5, opRows6, opRows7,
   opRows8, opRows9, opRowsA, opRowsB, opRowsC, opRowsD, opRowsE, opRowsF]

/-- CB opcode bytes 0x00..0x0F. -/
def cbRows0 : List Instr :=
  [.rlcB, .rlcC, .rlcD, .rlcE, .rlcH, .rlcL, .rlcMemHL, .rlcA,
   .rrcB, .rrcC, .rrcD, .rrcE, .rrcH, .rrcL, .rrcMemHL, .rrcA]

/-- CB opcode bytes 0x10..0x1F. -/
def cbRows1 : List Instr :=
  [.rlB, .rlC, .rlD, .rlE, .rlH, .rlL, .rlMemHL, .rlA,
   .rrB, .rrC, .rrD, .rrE, .rrH, .rrL, .rrMemHL, .rrA]

/-- CB opcode bytes 0x20..0x2F. -/
def cbRows2 : List Instr :=
  [.slaB, .slaC, .slaD, .slaE, .slaH, .slaL, .slaMemHL, .slaA,
   .sraB, .sraC, .sraD, .sraE, .sraH, .sraL, .sraMemHL, .sraA]

/-- CB opcode bytes 0x30..0x3F. -/
def cbRows3 : List Instr :=
  [.swapB, .swapC, .swapD, .swapE, .swapH, .swapL, .swapMemHL, .swapA,
   .srlB, .srlC, .srlD, .srlE, .srlH, .srlL, .srlMemHL, .srlA]

/-- CB opcode bytes 0x40..0x4F. -/
def cbRows4 : List Instr :=
  [.bit0B, .bit0C, .bit0D, .bit0E, .bit0H, .bit0L, .bit0MemHL, .bit0A,
   .bit1B, .bit1C, .bit1D, .bit1E, .bit1H, .bit1L, .bit1MemHL, .bit1A]

/-- CB opcode bytes 0x50..0x5F. -/
def cbRows5 : List Instr :=
  [.bit2B, .bit2C, .bit2D, .bit2E, .bit2H, .bit2L, .bit2MemHL, .bit2A,
   .bit3B, .bit3C, .bit3D, .bit3E, .bit3H, .bit3L, .bit3MemHL, .bit3A]

/-- CB opcode bytes 0x60..0x6F. -/
def cbRows6 : List Instr :=
  [.bit4B, .bit4C, .bit4D, .bit4E, .bit4H, .bit4L, .bit4MemHL, .bit4A,
   .bit5B, .bit5C, .bit5D, .bit5E, .bit5H, .bit5L, .bit5MemHL, .bit5A]

/-- CB opcode bytes 0x70..0x7F. -/
def cbRows7 : List Instr :=
  [.bit6B, .bit6C, .bit6D, .bit6E, .bit6H, .bit6L, .bit6MemHL, .bit6A,
   .bit7B, .bit7C, .bit7D, .bit7E, .bit7H, .bit7L, .bit7MemHL, .bit7A]

/-- CB opcode bytes 0x80..0x8F. -/
def cbRows8 : List Instr :=
  [.res0B, .res0C, .res0D, .res0E, .res0H, .res0L, .res0MemHL, .res0A,
   .res1B, .res1C, .res1D, .res1E, .res1H, .res1L, .res1MemHL, .res1A]

/-- CB opcode bytes 0x90..0x9F. -/
def cbRows9 : List Instr :=
  [.res2B, .res2C, .res2D, .res2E, .res2H, .res2L, .res2MemHL, .res2A,
   .res3B, .res3C, .res3D, .res3E, .res3H, .res3L, .res3MemHL, .res3A]

/-- CB opcode bytes 0xA0..0xAF. -/
def cbRowsA : List Instr :=
  [.res4B, .res4C, .res4D, .res4E, .res4H, .res4L, .res4MemHL, .res4A,
   .res5B, .res5C, .res5D, .res5E, .res5H, .res5L, .res5MemHL, .res5A]

/-- CB opcode bytes 0xB0..0xBF. -/
def cbRowsB : List Instr :=
  [.res6B, .res6C, .res6D, .res6E, .res6H, .res6L, .res6MemHL, .res6A,
   .res7B, .res7C, .res7D, .res7E, .res7H, .res7L, .res7MemHL, .res7A]

/-- CB opcode bytes 0xC0..0xCF. -/
def cbRowsC : List Instr :=
  [.set0B, .set0C, .set0D, .set0E, .set0H, .set0L, .set0MemHL, .set0A,
   .set1B, .set1C, .set1D, .set1E, .set1H, .set1L, .set1MemHL, .set1A]

/-- CB opcode bytes 0xD0..0xDF. -/
def cbRowsD : List Instr :=
  [.set2B, .set2C, .set2D, .set2E, .set2H, .set2L, .set2MemHL, .set2A,
   .set3B, .set3C, .set3D, .set3E, .set3H, .set3L, .set3MemHL, .set3A]

/-- CB opcode bytes 0xE0..0xEF. -/
def cbRowsE : List Instr :=
  [.set4B, .set4C, .set4D, .set4E, .set4H, .set4L, .set4MemHL, .set4A,
   .set5B, .set5C, .set5D, .set5E, .set5H, .set5L, .set5MemHL, .set5A]

/-- CB opcode bytes 0xF0..0xFF. -/
def cbRowsF : List Instr :=
  [.set6B, .set6C, .set6D, .set6E, .set6H, .set6L, .set6MemHL, .set6A,
   .set7B, .set7C, .set7D, .set7E, .set7H, .set7L, .set7MemHL, .set7A]

/-- The CB opcode table (R177): all 256 bytes are defined. -/
def cbTable : List (List Instr) :=
  [cbRows0, cbRows1, cbRows2, cbRows3, cbRows4, cbRows5, cbRows6, cbRows7,
   cbRows8, cbRows9, cbRowsA, cbRowsB, cbRowsC, cbRowsD, cbRowsE, cbRowsF]

/-- Look a byte up in a table of sixteen rows of sixteen. -/
def tableAt {α : Type} (t : List (List α)) (b : Byte) : Option α :=
  (t[b.toNat / 16]?).bind (fun r => r[b.toNat % 16]?)

/-- The rest of an instruction after its opcode byte (R170, R180): immediates are little-endian. -/
def decodeRow (r : OpRow) (rest : List Byte) : DecodeResult :=
  match r, rest with
  | .op i, bs => .instr i bs
  | .d8 f, n :: bs => .instr (f n) bs
  | .d16 f, l :: h :: bs => .instr (f (Machine.mkWord h l)) bs
  | .cb, c :: bs =>
    match tableAt cbTable c with
    | some i => .instr i bs
    | none => .reject .noRow
  | .d8 _, [] => .reject .truncated
  | .d16 _, [] => .reject .truncated
  | .d16 _, [_] => .reject .truncated
  | .cb, [] => .reject .truncated

/-- Decode the instruction at the head of a list of bytes (R180). -/
def decode (bytes : List Byte) : DecodeResult :=
  match bytes with
  | [] => .reject .noOpcode
  | op :: rest =>
    match tableAt opTable op with
    | some r => decodeRow r rest
    | none => .reject .noRow

/-- R161, R162: an opcode byte from its fields x, y and z. -/
def opcodeByte (x : BitVec 2) (y z : BitVec 3) : Byte := x ++ y ++ z

/-- R177: the prefix byte. -/
def cbPrefix : Byte := 0xCB

/-- The bytes of an instruction (R160, R172-R178): the opcode byte by its fields, then the immediate, low byte first. -/
def encode (i : Instr) : List Byte :=
  match i with
  | .nop => [opcodeByte 0 0 0]
  | .ldBCd16 w => [opcodeByte 0 0 1, Machine.loByte w, Machine.hiByte w]
  | .ldMemBCA => [opcodeByte 0 0 2]
  | .incBC => [opcodeByte 0 0 3]
  | .incB => [opcodeByte 0 0 4]
  | .decB => [opcodeByte 0 0 5]
  | .ldBd8 n => [opcodeByte 0 0 6, n]
  | .rlca => [opcodeByte 0 0 7]
  | .ldMemA16SP w => [opcodeByte 0 1 0, Machine.loByte w, Machine.hiByte w]
  | .addHLBC => [opcodeByte 0 1 1]
  | .ldAMemBC => [opcodeByte 0 1 2]
  | .decBC => [opcodeByte 0 1 3]
  | .incC => [opcodeByte 0 1 4]
  | .decC => [opcodeByte 0 1 5]
  | .ldCd8 n => [opcodeByte 0 1 6, n]
  | .rrca => [opcodeByte 0 1 7]
  | .stop n => [opcodeByte 0 2 0, n]
  | .ldDEd16 w => [opcodeByte 0 2 1, Machine.loByte w, Machine.hiByte w]
  | .ldMemDEA => [opcodeByte 0 2 2]
  | .incDE => [opcodeByte 0 2 3]
  | .incD => [opcodeByte 0 2 4]
  | .decD => [opcodeByte 0 2 5]
  | .ldDd8 n => [opcodeByte 0 2 6, n]
  | .rla => [opcodeByte 0 2 7]
  | .jrE8 e => [opcodeByte 0 3 0, e]
  | .addHLDE => [opcodeByte 0 3 1]
  | .ldAMemDE => [opcodeByte 0 3 2]
  | .decDE => [opcodeByte 0 3 3]
  | .incE => [opcodeByte 0 3 4]
  | .decE => [opcodeByte 0 3 5]
  | .ldEd8 n => [opcodeByte 0 3 6, n]
  | .rra => [opcodeByte 0 3 7]
  | .jrNZe8 e => [opcodeByte 0 4 0, e]
  | .ldHLd16 w => [opcodeByte 0 4 1, Machine.loByte w, Machine.hiByte w]
  | .ldMemHLIncA => [opcodeByte 0 4 2]
  | .incHL => [opcodeByte 0 4 3]
  | .incH => [opcodeByte 0 4 4]
  | .decH => [opcodeByte 0 4 5]
  | .ldHd8 n => [opcodeByte 0 4 6, n]
  | .daa => [opcodeByte 0 4 7]
  | .jrZe8 e => [opcodeByte 0 5 0, e]
  | .addHLHL => [opcodeByte 0 5 1]
  | .ldAMemHLInc => [opcodeByte 0 5 2]
  | .decHL => [opcodeByte 0 5 3]
  | .incL => [opcodeByte 0 5 4]
  | .decL => [opcodeByte 0 5 5]
  | .ldLd8 n => [opcodeByte 0 5 6, n]
  | .cpl => [opcodeByte 0 5 7]
  | .jrNCe8 e => [opcodeByte 0 6 0, e]
  | .ldSPd16 w => [opcodeByte 0 6 1, Machine.loByte w, Machine.hiByte w]
  | .ldMemHLDecA => [opcodeByte 0 6 2]
  | .incSP => [opcodeByte 0 6 3]
  | .incMemHL => [opcodeByte 0 6 4]
  | .decMemHL => [opcodeByte 0 6 5]
  | .ldMemHLd8 n => [opcodeByte 0 6 6, n]
  | .scf => [opcodeByte 0 6 7]
  | .jrCe8 e => [opcodeByte 0 7 0, e]
  | .addHLSP => [opcodeByte 0 7 1]
  | .ldAMemHLDec => [opcodeByte 0 7 2]
  | .decSP => [opcodeByte 0 7 3]
  | .incA => [opcodeByte 0 7 4]
  | .decA => [opcodeByte 0 7 5]
  | .ldAd8 n => [opcodeByte 0 7 6, n]
  | .ccf => [opcodeByte 0 7 7]
  | .ldBB => [opcodeByte 1 0 0]
  | .ldBC => [opcodeByte 1 0 1]
  | .ldBD => [opcodeByte 1 0 2]
  | .ldBE => [opcodeByte 1 0 3]
  | .ldBH => [opcodeByte 1 0 4]
  | .ldBL => [opcodeByte 1 0 5]
  | .ldBMemHL => [opcodeByte 1 0 6]
  | .ldBA => [opcodeByte 1 0 7]
  | .ldCB => [opcodeByte 1 1 0]
  | .ldCC => [opcodeByte 1 1 1]
  | .ldCD => [opcodeByte 1 1 2]
  | .ldCE => [opcodeByte 1 1 3]
  | .ldCH => [opcodeByte 1 1 4]
  | .ldCL => [opcodeByte 1 1 5]
  | .ldCMemHL => [opcodeByte 1 1 6]
  | .ldCA => [opcodeByte 1 1 7]
  | .ldDB => [opcodeByte 1 2 0]
  | .ldDC => [opcodeByte 1 2 1]
  | .ldDD => [opcodeByte 1 2 2]
  | .ldDE => [opcodeByte 1 2 3]
  | .ldDH => [opcodeByte 1 2 4]
  | .ldDL => [opcodeByte 1 2 5]
  | .ldDMemHL => [opcodeByte 1 2 6]
  | .ldDA => [opcodeByte 1 2 7]
  | .ldEB => [opcodeByte 1 3 0]
  | .ldEC => [opcodeByte 1 3 1]
  | .ldED => [opcodeByte 1 3 2]
  | .ldEE => [opcodeByte 1 3 3]
  | .ldEH => [opcodeByte 1 3 4]
  | .ldEL => [opcodeByte 1 3 5]
  | .ldEMemHL => [opcodeByte 1 3 6]
  | .ldEA => [opcodeByte 1 3 7]
  | .ldHB => [opcodeByte 1 4 0]
  | .ldHC => [opcodeByte 1 4 1]
  | .ldHD => [opcodeByte 1 4 2]
  | .ldHE => [opcodeByte 1 4 3]
  | .ldHH => [opcodeByte 1 4 4]
  | .ldHL => [opcodeByte 1 4 5]
  | .ldHMemHL => [opcodeByte 1 4 6]
  | .ldHA => [opcodeByte 1 4 7]
  | .ldLB => [opcodeByte 1 5 0]
  | .ldLC => [opcodeByte 1 5 1]
  | .ldLD => [opcodeByte 1 5 2]
  | .ldLE => [opcodeByte 1 5 3]
  | .ldLH => [opcodeByte 1 5 4]
  | .ldLL => [opcodeByte 1 5 5]
  | .ldLMemHL => [opcodeByte 1 5 6]
  | .ldLA => [opcodeByte 1 5 7]
  | .ldMemHLB => [opcodeByte 1 6 0]
  | .ldMemHLC => [opcodeByte 1 6 1]
  | .ldMemHLD => [opcodeByte 1 6 2]
  | .ldMemHLE => [opcodeByte 1 6 3]
  | .ldMemHLH => [opcodeByte 1 6 4]
  | .ldMemHLL => [opcodeByte 1 6 5]
  | .halt => [opcodeByte 1 6 6]
  | .ldMemHLA => [opcodeByte 1 6 7]
  | .ldAB => [opcodeByte 1 7 0]
  | .ldAC => [opcodeByte 1 7 1]
  | .ldAD => [opcodeByte 1 7 2]
  | .ldAE => [opcodeByte 1 7 3]
  | .ldAH => [opcodeByte 1 7 4]
  | .ldAL => [opcodeByte 1 7 5]
  | .ldAMemHL => [opcodeByte 1 7 6]
  | .ldAA => [opcodeByte 1 7 7]
  | .addAB => [opcodeByte 2 0 0]
  | .addAC => [opcodeByte 2 0 1]
  | .addAD => [opcodeByte 2 0 2]
  | .addAE => [opcodeByte 2 0 3]
  | .addAH => [opcodeByte 2 0 4]
  | .addAL => [opcodeByte 2 0 5]
  | .addAMemHL => [opcodeByte 2 0 6]
  | .addAA => [opcodeByte 2 0 7]
  | .adcAB => [opcodeByte 2 1 0]
  | .adcAC => [opcodeByte 2 1 1]
  | .adcAD => [opcodeByte 2 1 2]
  | .adcAE => [opcodeByte 2 1 3]
  | .adcAH => [opcodeByte 2 1 4]
  | .adcAL => [opcodeByte 2 1 5]
  | .adcAMemHL => [opcodeByte 2 1 6]
  | .adcAA => [opcodeByte 2 1 7]
  | .subAB => [opcodeByte 2 2 0]
  | .subAC => [opcodeByte 2 2 1]
  | .subAD => [opcodeByte 2 2 2]
  | .subAE => [opcodeByte 2 2 3]
  | .subAH => [opcodeByte 2 2 4]
  | .subAL => [opcodeByte 2 2 5]
  | .subAMemHL => [opcodeByte 2 2 6]
  | .subAA => [opcodeByte 2 2 7]
  | .sbcAB => [opcodeByte 2 3 0]
  | .sbcAC => [opcodeByte 2 3 1]
  | .sbcAD => [opcodeByte 2 3 2]
  | .sbcAE => [opcodeByte 2 3 3]
  | .sbcAH => [opcodeByte 2 3 4]
  | .sbcAL => [opcodeByte 2 3 5]
  | .sbcAMemHL => [opcodeByte 2 3 6]
  | .sbcAA => [opcodeByte 2 3 7]
  | .andAB => [opcodeByte 2 4 0]
  | .andAC => [opcodeByte 2 4 1]
  | .andAD => [opcodeByte 2 4 2]
  | .andAE => [opcodeByte 2 4 3]
  | .andAH => [opcodeByte 2 4 4]
  | .andAL => [opcodeByte 2 4 5]
  | .andAMemHL => [opcodeByte 2 4 6]
  | .andAA => [opcodeByte 2 4 7]
  | .xorAB => [opcodeByte 2 5 0]
  | .xorAC => [opcodeByte 2 5 1]
  | .xorAD => [opcodeByte 2 5 2]
  | .xorAE => [opcodeByte 2 5 3]
  | .xorAH => [opcodeByte 2 5 4]
  | .xorAL => [opcodeByte 2 5 5]
  | .xorAMemHL => [opcodeByte 2 5 6]
  | .xorAA => [opcodeByte 2 5 7]
  | .orAB => [opcodeByte 2 6 0]
  | .orAC => [opcodeByte 2 6 1]
  | .orAD => [opcodeByte 2 6 2]
  | .orAE => [opcodeByte 2 6 3]
  | .orAH => [opcodeByte 2 6 4]
  | .orAL => [opcodeByte 2 6 5]
  | .orAMemHL => [opcodeByte 2 6 6]
  | .orAA => [opcodeByte 2 6 7]
  | .cpAB => [opcodeByte 2 7 0]
  | .cpAC => [opcodeByte 2 7 1]
  | .cpAD => [opcodeByte 2 7 2]
  | .cpAE => [opcodeByte 2 7 3]
  | .cpAH => [opcodeByte 2 7 4]
  | .cpAL => [opcodeByte 2 7 5]
  | .cpAMemHL => [opcodeByte 2 7 6]
  | .cpAA => [opcodeByte 2 7 7]
  | .retNZ => [opcodeByte 3 0 0]
  | .popBC => [opcodeByte 3 0 1]
  | .jpNZA16 w => [opcodeByte 3 0 2, Machine.loByte w, Machine.hiByte w]
  | .jpA16 w => [opcodeByte 3 0 3, Machine.loByte w, Machine.hiByte w]
  | .callNZA16 w => [opcodeByte 3 0 4, Machine.loByte w, Machine.hiByte w]
  | .pushBC => [opcodeByte 3 0 5]
  | .addAd8 n => [opcodeByte 3 0 6, n]
  | .rst00 => [opcodeByte 3 0 7]
  | .retZ => [opcodeByte 3 1 0]
  | .ret => [opcodeByte 3 1 1]
  | .jpZA16 w => [opcodeByte 3 1 2, Machine.loByte w, Machine.hiByte w]
  | .prefixCB c => [cbPrefix, c]
  | .callZA16 w => [opcodeByte 3 1 4, Machine.loByte w, Machine.hiByte w]
  | .callA16 w => [opcodeByte 3 1 5, Machine.loByte w, Machine.hiByte w]
  | .adcAd8 n => [opcodeByte 3 1 6, n]
  | .rst08 => [opcodeByte 3 1 7]
  | .retNC => [opcodeByte 3 2 0]
  | .popDE => [opcodeByte 3 2 1]
  | .jpNCA16 w => [opcodeByte 3 2 2, Machine.loByte w, Machine.hiByte w]
  | .illegalD3 => [opcodeByte 3 2 3]
  | .callNCA16 w => [opcodeByte 3 2 4, Machine.loByte w, Machine.hiByte w]
  | .pushDE => [opcodeByte 3 2 5]
  | .subAd8 n => [opcodeByte 3 2 6, n]
  | .rst10 => [opcodeByte 3 2 7]
  | .retC => [opcodeByte 3 3 0]
  | .reti => [opcodeByte 3 3 1]
  | .jpCA16 w => [opcodeByte 3 3 2, Machine.loByte w, Machine.hiByte w]
  | .illegalDB => [opcodeByte 3 3 3]
  | .callCA16 w => [opcodeByte 3 3 4, Machine.loByte w, Machine.hiByte w]
  | .illegalDD => [opcodeByte 3 3 5]
  | .sbcAd8 n => [opcodeByte 3 3 6, n]
  | .rst18 => [opcodeByte 3 3 7]
  | .ldhMemA8A n => [opcodeByte 3 4 0, n]
  | .popHL => [opcodeByte 3 4 1]
  | .ldMemCA => [opcodeByte 3 4 2]
  | .illegalE3 => [opcodeByte 3 4 3]
  | .illegalE4 => [opcodeByte 3 4 4]
  | .pushHL => [opcodeByte 3 4 5]
  | .andAd8 n => [opcodeByte 3 4 6, n]
  | .rst20 => [opcodeByte 3 4 7]
  | .addSPe8 e => [opcodeByte 3 5 0, e]
  | .jpHL => [opcodeByte 3 5 1]
  | .ldMemA16A w => [opcodeByte 3 5 2, Machine.loByte w, Machine.hiByte w]
  | .illegalEB => [opcodeByte 3 5 3]
  | .illegalEC => [opcodeByte 3 5 4]
  | .illegalED => [opcodeByte 3 5 5]
  | .xorAd8 n => [opcodeByte 3 5 6, n]
  | .rst28 => [opcodeByte 3 5 7]
  | .ldhAMemA8 n => [opcodeByte 3 6 0, n]
  | .popAF => [opcodeByte 3 6 1]
  | .ldAMemC => [opcodeByte 3 6 2]
  | .di => [opcodeByte 3 6 3]
  | .illegalF4 => [opcodeByte 3 6 4]
  | .pushAF => [opcodeByte 3 6 5]
  | .orAd8 n => [opcodeByte 3 6 6, n]
  | .rst30 => [opcodeByte 3 6 7]
  | .ldHLSPe8 e => [opcodeByte 3 7 0, e]
  | .ldSPHL => [opcodeByte 3 7 1]
  | .ldAMemA16 w => [opcodeByte 3 7 2, Machine.loByte w, Machine.hiByte w]
  | .ei => [opcodeByte 3 7 3]
  | .illegalFC => [opcodeByte 3 7 4]
  | .illegalFD => [opcodeByte 3 7 5]
  | .cpAd8 n => [opcodeByte 3 7 6, n]
  | .rst38 => [opcodeByte 3 7 7]
  | .rlcB => [cbPrefix, opcodeByte 0 0 0]
  | .rlcC => [cbPrefix, opcodeByte 0 0 1]
  | .rlcD => [cbPrefix, opcodeByte 0 0 2]
  | .rlcE => [cbPrefix, opcodeByte 0 0 3]
  | .rlcH => [cbPrefix, opcodeByte 0 0 4]
  | .rlcL => [cbPrefix, opcodeByte 0 0 5]
  | .rlcMemHL => [cbPrefix, opcodeByte 0 0 6]
  | .rlcA => [cbPrefix, opcodeByte 0 0 7]
  | .rrcB => [cbPrefix, opcodeByte 0 1 0]
  | .rrcC => [cbPrefix, opcodeByte 0 1 1]
  | .rrcD => [cbPrefix, opcodeByte 0 1 2]
  | .rrcE => [cbPrefix, opcodeByte 0 1 3]
  | .rrcH => [cbPrefix, opcodeByte 0 1 4]
  | .rrcL => [cbPrefix, opcodeByte 0 1 5]
  | .rrcMemHL => [cbPrefix, opcodeByte 0 1 6]
  | .rrcA => [cbPrefix, opcodeByte 0 1 7]
  | .rlB => [cbPrefix, opcodeByte 0 2 0]
  | .rlC => [cbPrefix, opcodeByte 0 2 1]
  | .rlD => [cbPrefix, opcodeByte 0 2 2]
  | .rlE => [cbPrefix, opcodeByte 0 2 3]
  | .rlH => [cbPrefix, opcodeByte 0 2 4]
  | .rlL => [cbPrefix, opcodeByte 0 2 5]
  | .rlMemHL => [cbPrefix, opcodeByte 0 2 6]
  | .rlA => [cbPrefix, opcodeByte 0 2 7]
  | .rrB => [cbPrefix, opcodeByte 0 3 0]
  | .rrC => [cbPrefix, opcodeByte 0 3 1]
  | .rrD => [cbPrefix, opcodeByte 0 3 2]
  | .rrE => [cbPrefix, opcodeByte 0 3 3]
  | .rrH => [cbPrefix, opcodeByte 0 3 4]
  | .rrL => [cbPrefix, opcodeByte 0 3 5]
  | .rrMemHL => [cbPrefix, opcodeByte 0 3 6]
  | .rrA => [cbPrefix, opcodeByte 0 3 7]
  | .slaB => [cbPrefix, opcodeByte 0 4 0]
  | .slaC => [cbPrefix, opcodeByte 0 4 1]
  | .slaD => [cbPrefix, opcodeByte 0 4 2]
  | .slaE => [cbPrefix, opcodeByte 0 4 3]
  | .slaH => [cbPrefix, opcodeByte 0 4 4]
  | .slaL => [cbPrefix, opcodeByte 0 4 5]
  | .slaMemHL => [cbPrefix, opcodeByte 0 4 6]
  | .slaA => [cbPrefix, opcodeByte 0 4 7]
  | .sraB => [cbPrefix, opcodeByte 0 5 0]
  | .sraC => [cbPrefix, opcodeByte 0 5 1]
  | .sraD => [cbPrefix, opcodeByte 0 5 2]
  | .sraE => [cbPrefix, opcodeByte 0 5 3]
  | .sraH => [cbPrefix, opcodeByte 0 5 4]
  | .sraL => [cbPrefix, opcodeByte 0 5 5]
  | .sraMemHL => [cbPrefix, opcodeByte 0 5 6]
  | .sraA => [cbPrefix, opcodeByte 0 5 7]
  | .swapB => [cbPrefix, opcodeByte 0 6 0]
  | .swapC => [cbPrefix, opcodeByte 0 6 1]
  | .swapD => [cbPrefix, opcodeByte 0 6 2]
  | .swapE => [cbPrefix, opcodeByte 0 6 3]
  | .swapH => [cbPrefix, opcodeByte 0 6 4]
  | .swapL => [cbPrefix, opcodeByte 0 6 5]
  | .swapMemHL => [cbPrefix, opcodeByte 0 6 6]
  | .swapA => [cbPrefix, opcodeByte 0 6 7]
  | .srlB => [cbPrefix, opcodeByte 0 7 0]
  | .srlC => [cbPrefix, opcodeByte 0 7 1]
  | .srlD => [cbPrefix, opcodeByte 0 7 2]
  | .srlE => [cbPrefix, opcodeByte 0 7 3]
  | .srlH => [cbPrefix, opcodeByte 0 7 4]
  | .srlL => [cbPrefix, opcodeByte 0 7 5]
  | .srlMemHL => [cbPrefix, opcodeByte 0 7 6]
  | .srlA => [cbPrefix, opcodeByte 0 7 7]
  | .bit0B => [cbPrefix, opcodeByte 1 0 0]
  | .bit0C => [cbPrefix, opcodeByte 1 0 1]
  | .bit0D => [cbPrefix, opcodeByte 1 0 2]
  | .bit0E => [cbPrefix, opcodeByte 1 0 3]
  | .bit0H => [cbPrefix, opcodeByte 1 0 4]
  | .bit0L => [cbPrefix, opcodeByte 1 0 5]
  | .bit0MemHL => [cbPrefix, opcodeByte 1 0 6]
  | .bit0A => [cbPrefix, opcodeByte 1 0 7]
  | .bit1B => [cbPrefix, opcodeByte 1 1 0]
  | .bit1C => [cbPrefix, opcodeByte 1 1 1]
  | .bit1D => [cbPrefix, opcodeByte 1 1 2]
  | .bit1E => [cbPrefix, opcodeByte 1 1 3]
  | .bit1H => [cbPrefix, opcodeByte 1 1 4]
  | .bit1L => [cbPrefix, opcodeByte 1 1 5]
  | .bit1MemHL => [cbPrefix, opcodeByte 1 1 6]
  | .bit1A => [cbPrefix, opcodeByte 1 1 7]
  | .bit2B => [cbPrefix, opcodeByte 1 2 0]
  | .bit2C => [cbPrefix, opcodeByte 1 2 1]
  | .bit2D => [cbPrefix, opcodeByte 1 2 2]
  | .bit2E => [cbPrefix, opcodeByte 1 2 3]
  | .bit2H => [cbPrefix, opcodeByte 1 2 4]
  | .bit2L => [cbPrefix, opcodeByte 1 2 5]
  | .bit2MemHL => [cbPrefix, opcodeByte 1 2 6]
  | .bit2A => [cbPrefix, opcodeByte 1 2 7]
  | .bit3B => [cbPrefix, opcodeByte 1 3 0]
  | .bit3C => [cbPrefix, opcodeByte 1 3 1]
  | .bit3D => [cbPrefix, opcodeByte 1 3 2]
  | .bit3E => [cbPrefix, opcodeByte 1 3 3]
  | .bit3H => [cbPrefix, opcodeByte 1 3 4]
  | .bit3L => [cbPrefix, opcodeByte 1 3 5]
  | .bit3MemHL => [cbPrefix, opcodeByte 1 3 6]
  | .bit3A => [cbPrefix, opcodeByte 1 3 7]
  | .bit4B => [cbPrefix, opcodeByte 1 4 0]
  | .bit4C => [cbPrefix, opcodeByte 1 4 1]
  | .bit4D => [cbPrefix, opcodeByte 1 4 2]
  | .bit4E => [cbPrefix, opcodeByte 1 4 3]
  | .bit4H => [cbPrefix, opcodeByte 1 4 4]
  | .bit4L => [cbPrefix, opcodeByte 1 4 5]
  | .bit4MemHL => [cbPrefix, opcodeByte 1 4 6]
  | .bit4A => [cbPrefix, opcodeByte 1 4 7]
  | .bit5B => [cbPrefix, opcodeByte 1 5 0]
  | .bit5C => [cbPrefix, opcodeByte 1 5 1]
  | .bit5D => [cbPrefix, opcodeByte 1 5 2]
  | .bit5E => [cbPrefix, opcodeByte 1 5 3]
  | .bit5H => [cbPrefix, opcodeByte 1 5 4]
  | .bit5L => [cbPrefix, opcodeByte 1 5 5]
  | .bit5MemHL => [cbPrefix, opcodeByte 1 5 6]
  | .bit5A => [cbPrefix, opcodeByte 1 5 7]
  | .bit6B => [cbPrefix, opcodeByte 1 6 0]
  | .bit6C => [cbPrefix, opcodeByte 1 6 1]
  | .bit6D => [cbPrefix, opcodeByte 1 6 2]
  | .bit6E => [cbPrefix, opcodeByte 1 6 3]
  | .bit6H => [cbPrefix, opcodeByte 1 6 4]
  | .bit6L => [cbPrefix, opcodeByte 1 6 5]
  | .bit6MemHL => [cbPrefix, opcodeByte 1 6 6]
  | .bit6A => [cbPrefix, opcodeByte 1 6 7]
  | .bit7B => [cbPrefix, opcodeByte 1 7 0]
  | .bit7C => [cbPrefix, opcodeByte 1 7 1]
  | .bit7D => [cbPrefix, opcodeByte 1 7 2]
  | .bit7E => [cbPrefix, opcodeByte 1 7 3]
  | .bit7H => [cbPrefix, opcodeByte 1 7 4]
  | .bit7L => [cbPrefix, opcodeByte 1 7 5]
  | .bit7MemHL => [cbPrefix, opcodeByte 1 7 6]
  | .bit7A => [cbPrefix, opcodeByte 1 7 7]
  | .res0B => [cbPrefix, opcodeByte 2 0 0]
  | .res0C => [cbPrefix, opcodeByte 2 0 1]
  | .res0D => [cbPrefix, opcodeByte 2 0 2]
  | .res0E => [cbPrefix, opcodeByte 2 0 3]
  | .res0H => [cbPrefix, opcodeByte 2 0 4]
  | .res0L => [cbPrefix, opcodeByte 2 0 5]
  | .res0MemHL => [cbPrefix, opcodeByte 2 0 6]
  | .res0A => [cbPrefix, opcodeByte 2 0 7]
  | .res1B => [cbPrefix, opcodeByte 2 1 0]
  | .res1C => [cbPrefix, opcodeByte 2 1 1]
  | .res1D => [cbPrefix, opcodeByte 2 1 2]
  | .res1E => [cbPrefix, opcodeByte 2 1 3]
  | .res1H => [cbPrefix, opcodeByte 2 1 4]
  | .res1L => [cbPrefix, opcodeByte 2 1 5]
  | .res1MemHL => [cbPrefix, opcodeByte 2 1 6]
  | .res1A => [cbPrefix, opcodeByte 2 1 7]
  | .res2B => [cbPrefix, opcodeByte 2 2 0]
  | .res2C => [cbPrefix, opcodeByte 2 2 1]
  | .res2D => [cbPrefix, opcodeByte 2 2 2]
  | .res2E => [cbPrefix, opcodeByte 2 2 3]
  | .res2H => [cbPrefix, opcodeByte 2 2 4]
  | .res2L => [cbPrefix, opcodeByte 2 2 5]
  | .res2MemHL => [cbPrefix, opcodeByte 2 2 6]
  | .res2A => [cbPrefix, opcodeByte 2 2 7]
  | .res3B => [cbPrefix, opcodeByte 2 3 0]
  | .res3C => [cbPrefix, opcodeByte 2 3 1]
  | .res3D => [cbPrefix, opcodeByte 2 3 2]
  | .res3E => [cbPrefix, opcodeByte 2 3 3]
  | .res3H => [cbPrefix, opcodeByte 2 3 4]
  | .res3L => [cbPrefix, opcodeByte 2 3 5]
  | .res3MemHL => [cbPrefix, opcodeByte 2 3 6]
  | .res3A => [cbPrefix, opcodeByte 2 3 7]
  | .res4B => [cbPrefix, opcodeByte 2 4 0]
  | .res4C => [cbPrefix, opcodeByte 2 4 1]
  | .res4D => [cbPrefix, opcodeByte 2 4 2]
  | .res4E => [cbPrefix, opcodeByte 2 4 3]
  | .res4H => [cbPrefix, opcodeByte 2 4 4]
  | .res4L => [cbPrefix, opcodeByte 2 4 5]
  | .res4MemHL => [cbPrefix, opcodeByte 2 4 6]
  | .res4A => [cbPrefix, opcodeByte 2 4 7]
  | .res5B => [cbPrefix, opcodeByte 2 5 0]
  | .res5C => [cbPrefix, opcodeByte 2 5 1]
  | .res5D => [cbPrefix, opcodeByte 2 5 2]
  | .res5E => [cbPrefix, opcodeByte 2 5 3]
  | .res5H => [cbPrefix, opcodeByte 2 5 4]
  | .res5L => [cbPrefix, opcodeByte 2 5 5]
  | .res5MemHL => [cbPrefix, opcodeByte 2 5 6]
  | .res5A => [cbPrefix, opcodeByte 2 5 7]
  | .res6B => [cbPrefix, opcodeByte 2 6 0]
  | .res6C => [cbPrefix, opcodeByte 2 6 1]
  | .res6D => [cbPrefix, opcodeByte 2 6 2]
  | .res6E => [cbPrefix, opcodeByte 2 6 3]
  | .res6H => [cbPrefix, opcodeByte 2 6 4]
  | .res6L => [cbPrefix, opcodeByte 2 6 5]
  | .res6MemHL => [cbPrefix, opcodeByte 2 6 6]
  | .res6A => [cbPrefix, opcodeByte 2 6 7]
  | .res7B => [cbPrefix, opcodeByte 2 7 0]
  | .res7C => [cbPrefix, opcodeByte 2 7 1]
  | .res7D => [cbPrefix, opcodeByte 2 7 2]
  | .res7E => [cbPrefix, opcodeByte 2 7 3]
  | .res7H => [cbPrefix, opcodeByte 2 7 4]
  | .res7L => [cbPrefix, opcodeByte 2 7 5]
  | .res7MemHL => [cbPrefix, opcodeByte 2 7 6]
  | .res7A => [cbPrefix, opcodeByte 2 7 7]
  | .set0B => [cbPrefix, opcodeByte 3 0 0]
  | .set0C => [cbPrefix, opcodeByte 3 0 1]
  | .set0D => [cbPrefix, opcodeByte 3 0 2]
  | .set0E => [cbPrefix, opcodeByte 3 0 3]
  | .set0H => [cbPrefix, opcodeByte 3 0 4]
  | .set0L => [cbPrefix, opcodeByte 3 0 5]
  | .set0MemHL => [cbPrefix, opcodeByte 3 0 6]
  | .set0A => [cbPrefix, opcodeByte 3 0 7]
  | .set1B => [cbPrefix, opcodeByte 3 1 0]
  | .set1C => [cbPrefix, opcodeByte 3 1 1]
  | .set1D => [cbPrefix, opcodeByte 3 1 2]
  | .set1E => [cbPrefix, opcodeByte 3 1 3]
  | .set1H => [cbPrefix, opcodeByte 3 1 4]
  | .set1L => [cbPrefix, opcodeByte 3 1 5]
  | .set1MemHL => [cbPrefix, opcodeByte 3 1 6]
  | .set1A => [cbPrefix, opcodeByte 3 1 7]
  | .set2B => [cbPrefix, opcodeByte 3 2 0]
  | .set2C => [cbPrefix, opcodeByte 3 2 1]
  | .set2D => [cbPrefix, opcodeByte 3 2 2]
  | .set2E => [cbPrefix, opcodeByte 3 2 3]
  | .set2H => [cbPrefix, opcodeByte 3 2 4]
  | .set2L => [cbPrefix, opcodeByte 3 2 5]
  | .set2MemHL => [cbPrefix, opcodeByte 3 2 6]
  | .set2A => [cbPrefix, opcodeByte 3 2 7]
  | .set3B => [cbPrefix, opcodeByte 3 3 0]
  | .set3C => [cbPrefix, opcodeByte 3 3 1]
  | .set3D => [cbPrefix, opcodeByte 3 3 2]
  | .set3E => [cbPrefix, opcodeByte 3 3 3]
  | .set3H => [cbPrefix, opcodeByte 3 3 4]
  | .set3L => [cbPrefix, opcodeByte 3 3 5]
  | .set3MemHL => [cbPrefix, opcodeByte 3 3 6]
  | .set3A => [cbPrefix, opcodeByte 3 3 7]
  | .set4B => [cbPrefix, opcodeByte 3 4 0]
  | .set4C => [cbPrefix, opcodeByte 3 4 1]
  | .set4D => [cbPrefix, opcodeByte 3 4 2]
  | .set4E => [cbPrefix, opcodeByte 3 4 3]
  | .set4H => [cbPrefix, opcodeByte 3 4 4]
  | .set4L => [cbPrefix, opcodeByte 3 4 5]
  | .set4MemHL => [cbPrefix, opcodeByte 3 4 6]
  | .set4A => [cbPrefix, opcodeByte 3 4 7]
  | .set5B => [cbPrefix, opcodeByte 3 5 0]
  | .set5C => [cbPrefix, opcodeByte 3 5 1]
  | .set5D => [cbPrefix, opcodeByte 3 5 2]
  | .set5E => [cbPrefix, opcodeByte 3 5 3]
  | .set5H => [cbPrefix, opcodeByte 3 5 4]
  | .set5L => [cbPrefix, opcodeByte 3 5 5]
  | .set5MemHL => [cbPrefix, opcodeByte 3 5 6]
  | .set5A => [cbPrefix, opcodeByte 3 5 7]
  | .set6B => [cbPrefix, opcodeByte 3 6 0]
  | .set6C => [cbPrefix, opcodeByte 3 6 1]
  | .set6D => [cbPrefix, opcodeByte 3 6 2]
  | .set6E => [cbPrefix, opcodeByte 3 6 3]
  | .set6H => [cbPrefix, opcodeByte 3 6 4]
  | .set6L => [cbPrefix, opcodeByte 3 6 5]
  | .set6MemHL => [cbPrefix, opcodeByte 3 6 6]
  | .set6A => [cbPrefix, opcodeByte 3 6 7]
  | .set7B => [cbPrefix, opcodeByte 3 7 0]
  | .set7C => [cbPrefix, opcodeByte 3 7 1]
  | .set7D => [cbPrefix, opcodeByte 3 7 2]
  | .set7E => [cbPrefix, opcodeByte 3 7 3]
  | .set7H => [cbPrefix, opcodeByte 3 7 4]
  | .set7L => [cbPrefix, opcodeByte 3 7 5]
  | .set7MemHL => [cbPrefix, opcodeByte 3 7 6]
  | .set7A => [cbPrefix, opcodeByte 3 7 7]

/-- The three bytes at the head of memory that a table row's number stands for: `w`'s first `nbits` bits, every later bit
0. The table numbers a one-byte row with the byte in bits 7..0, and a CB row as `(first byte << 8) | second byte`
(spec/INDEX.md); a 16-bit number whose upper byte is 0xCB is read that way, any other number with its first byte in
bits 7..0 and later bytes counting on (log 8). -/
def tableBytes (nbits w : Nat) : List Byte :=
  let v := w % 2 ^ nbits
  if nbits = 16 ∧ v / 256 = 0xCB then [cbPrefix, BitVec.ofNat 8 v, 0]
  else [BitVec.ofNat 8 v, BitVec.ofNat 8 (v / 256), BitVec.ofNat 8 (v / 65536)]

/-- The instruction the decoder reads from a table row's number. -/
def decodeTableWord (nbits w : Nat) : Option Instr :=
  match decode (tableBytes nbits w) with
  | .instr i _ => some i
  | .reject _ => none

end Sys2Proof
end

