-- ==== Sys2Proof/Config.lean ====
section
/-!
DEFINITION. The open parameters of 00_scope.md R7, as plain data.

`Params` holds the parameters that the running core consults. It is a field of `State` that no step ever writes, so
that every claim about `step` and `exec` speaks of every admitted value of every parameter (the spec's words are
"the model takes these as arguments"). `BuildArgs` holds the parameters that only construction reads
(Machine/Construct.lean). This hardware leaves no value undefined after an instruction, so there is no free value.
-/

namespace Sys2Proof

/-- `STOP_MODE` (R7, R352, decision D8). -/
inductive StopMode where
  /-- the default: decoding 0x10 raises `UnimplementedOpcode` -/
  | fault
  /-- a 2-byte no-op of 4 dots -/
  | nop2
  /-- low-power stop until the host's `press` -/
  | haltUntilJoypad
  deriving DecidableEq, Repr

/-- `HALT_BUG` (R7, R351, decision D9). -/
inductive HaltBug where
  /-- the default: HALT always sets `halted` -/
  | none
  /-- HALT with IME = 0 and an enabled pending interrupt fetches the next opcode byte twice -/
  | doubleRead
  deriving DecidableEq, Repr

/-- `BOOT_MODE` (R7, R532, decision D22). -/
inductive BootMode where
  | bootRom
  | postBoot
  deriving DecidableEq, Repr

/-- `SERIAL_MODEL` (R7, R96, decision D19): one admitted value. -/
inductive SerialModel where
  | storageOnly
  deriving DecidableEq, Repr

/-- `DMA_TIMING` (R7, R500, R501, decision D24): one admitted value. -/
inductive DmaTiming where
  | instant
  deriving DecidableEq, Repr

/-- `THEME` (R7, R498, decision D36): the host colour of each shade. No rule of the core reads it. The spec gives a
colour no width, so a colour is a number. -/
structure Theme where
  shade0 : Nat
  shade1 : Nat
  shade2 : Nat
  shade3 : Nat
  deriving DecidableEq, Repr

/-- The parameters the running core consults (R7). No step writes them. -/
structure Params where
  stopMode    : StopMode
  haltBug     : HaltBug
  serialModel : SerialModel
  dmaTiming   : DmaTiming
  theme       : Theme
  /-- `BOOT_ROM`: the fixed boot program, keyed by its address 0x00..0xFF (R91); unlisted bytes are 0x00 -/
  bootRom     : List Host.Cell
  deriving DecidableEq, Repr

/-- The register values that `INITIAL_RAM` supplies where the reset table says "unspecified" (R36, R70): read only
when `BOOT_MODE = boot_rom`. -/
structure InitialRegs where
  a : Byte
  f : Byte
  b : Byte
  c : Byte
  d : Byte
  e : Byte
  h : Byte
  l : Byte
  sp : Word
  deriving DecidableEq, Repr

/-- Everything construction takes (R7, R531). Byte sequences are given as a length and the cells that are not 0x00. -/
structure BuildArgs where
  bootMode      : BootMode
  params        : Params
  /-- `CART_IMAGE`: its length in bytes (R131) -/
  imageLen      : Nat
  /-- `CART_IMAGE`: its bytes by offset -/
  image         : List Host.Cell
  /-- `CART_RAM_INIT`: the backing store's bytes by offset (R146, decision D52) -/
  cartRamInit   : List Host.Cell
  /-- `INITIAL_RAM`: VRAM, WRAM, OAM, HRAM and APU_REGS by console address (R70, decision D27) -/
  initialMem    : List Host.Cell
  /-- `INITIAL_RAM`: the pixel buffer, keyed by `160 * line + column` -/
  initialPixels : List (Nat × BitVec 2)
  /-- `INITIAL_RAM`: the registers the reset table leaves unspecified -/
  initialRegs   : InitialRegs
  deriving DecidableEq, Repr

/-- The default values of R7: `STOP_MODE = fault` and `HALT_BUG = none` are the spec's own defaults. THEME and
BOOT_ROM have none in the spec: 0, 1, 2, 3 and 256 bytes of 0x00 are the model's (DESIGN CHOICE, log 3, unsafe). -/
def Params.default : Params :=
  { stopMode := .fault, haltBug := .none, serialModel := .storageOnly, dmaTiming := .instant,
    theme := { shade0 := 0, shade1 := 1, shade2 := 2, shade3 := 3 }, bootRom := [] }

/-- The arguments whose construction is `State.reset`: `post_boot`, a 32 KiB ROM-only image of zeros, memories drawn
as zeros (DESIGN CHOICE, logs 2, 3, 4, unsafe). Every claim of this package is about all states, not about this one. -/
def BuildArgs.default : BuildArgs :=
  { bootMode := .postBoot, params := Params.default, imageLen := 0x8000, image := [], cartRamInit := [],
    initialMem := [], initialPixels := [],
    initialRegs := { a := 0, f := 0, b := 0, c := 0, d := 0, e := 0, h := 0, l := 0, sp := 0 } }

end Sys2Proof
end

