-- ==== Sys2Proof/Machine/State.lean ====
section
/-!
DEFINITION. The state of the core, unit by unit (10_state.md R30-R70), as plain data, and the state after reset.

Byte memories are sparse lists of cells in one canonical form (addresses strictly rising, no cell equal to what an
unlisted address reads as, namely 0x00: log 4); Machine/Store.lean has the operations and the form's test.
-/

namespace Sys2Proof.Machine

/-- A byte memory: the cells that do not hold 0x00, addresses strictly rising. -/
abbrev Memory := List Host.Cell

/-- The pixel buffer (R52): the entries that are not shade 0, keyed by `160 * line + column`, keys strictly rising. -/
abbrev Pixels := List (Nat × BitVec 2)

/-- The report of the fatal decode error (R41, R405): the opcode byte and the address it was fetched from. -/
structure UnimplementedOpcode where
  byte : Byte
  addr : Word
  deriving DecidableEq, Repr

/-- The CPU register file (R30, R32). F keeps its low nibble 0 (R34). -/
structure Regs where
  a : Byte
  f : Byte
  b : Byte
  c : Byte
  d : Byte
  e : Byte
  h : Byte
  l : Byte
  sp : Word
  pc : Word
  deriving DecidableEq, Repr

/-- CPU control state (R37-R42), with the latch of `HALT_BUG = double_read` (R351). -/
structure Ctl where
  /-- `master_enable` (R37) -/
  ime : Bool
  /-- R38 -/
  eiPending : Bool
  /-- R39 -/
  halted : Bool
  /-- R42 -/
  stopped : Bool
  /-- R351; always false under `HALT_BUG = none` -/
  haltBugLatch : Bool
  /-- dots remaining for the current instruction, 0..24 (R40) -/
  wait : Nat
  /-- R41 -/
  fatal : Option UnimplementedOpcode
  deriving DecidableEq, Repr

/-- The interrupt controller (R43, R44). -/
structure Intr where
  /-- IF -/
  pending : BitVec 5
  /-- IE -/
  enabled : BitVec 5
  /-- bits 7..5 of the last byte written to 0xFFFF -/
  ieHi : BitVec 3
  deriving DecidableEq, Repr

/-- The timer unit (R45-R47). -/
structure Timer where
  div16 : Word
  tima : Byte
  tma : Byte
  tac : BitVec 3
  /-- the dot accumulator, 0..1023 -/
  tacc : Nat
  deriving DecidableEq, Repr

/-- The PPU's mode (R48). -/
inductive PpuMode where
  | hblank
  | vblank
  | oamSearch
  | pixelTransfer
  deriving DecidableEq, Repr

/-- The PPU's state and register block (R48-R50); its memories are VRAM and OAM in `State.mem`, and `State.pixels`. -/
structure Ppu where
  mode : PpuMode
  /-- dot counter within the mode, 0..455 -/
  modeDot : Nat
  /-- current scanline, 0..153 -/
  ly : Nat
  /-- this scanline already composed -/
  composed : Bool
  lcdOffSeen : Bool
  lcdc : Byte
  /-- STAT bits 6..3 -/
  statEn : BitVec 4
  /-- STAT bit 2 -/
  statLyc : Bool
  scy : Byte
  scx : Byte
  lyc : Byte
  /-- the last value written to the DMA trigger -/
  dma : Byte
  bgp : Byte
  obp0 : Byte
  obp1 : Byte
  wy : Byte
  wx : Byte
  deriving DecidableEq, Repr

/-- The eight buttons of the host's `press` and `release` (R57, R416). -/
inductive Button where
  | up | down | left | right | a | b | select | start
  deriving DecidableEq, Repr

/-- `buttons`: true while pressed (R57). -/
structure Buttons where
  up : Bool
  down : Bool
  left : Bool
  right : Bool
  a : Bool
  b : Bool
  select : Bool
  start : Bool
  deriving DecidableEq, Repr

/-- The dispatcher-owned registers (R54, R56, R57). -/
structure Io where
  bootOverlay : Bool
  sb : Byte
  sc : Byte
  joypSel : BitVec 2
  buttons : Buttons
  deriving DecidableEq, Repr

/-- The cartridge families this spec admits (R132). -/
inductive Family where
  | romOnly
  | mbc1
  deriving DecidableEq, Repr

/-- The cartridge (R58). -/
structure Cart where
  family : Family
  /-- `CART_IMAGE` by physical offset; never written by the core -/
  rom : Memory
  romLen : Nat
  /-- cartridge RAM by physical offset -/
  ram : Memory
  ramLen : Nat
  romLo5 : BitVec 5
  bankHi2 : BitVec 2
  bankMode : Bool
  ramEnable : Bool
  deriving DecidableEq, Repr

/-- The whole core. `mem` is VRAM, WRAM, OAM, APU_REGS and HRAM by console address (R51, R53, R55; the mirrored
window has no cells of its own, R88). -/
structure State where
  regs : Regs
  ctl : Ctl
  intr : Intr
  timer : Timer
  ppu : Ppu
  io : Io
  cart : Cart
  mem : Memory
  pixels : Pixels
  params : Params
  deriving DecidableEq, Repr

/-- Why the machine stops. -/
inductive Fault where
  /-- Raised by `step` (Machine/Cpu.lean, `dot`) in every dot after the one that latched `fatal` (R400, R405, R41):
  "For a model this is a fault". The raising dot itself is a next state, with `fatal` and PC as R405 says. SAFE: the
  machine stops where the core never advances again. -/
  | unimplementedOpcode (byte : Byte) (addr : Word)
  deriving DecidableEq, Repr

/-- What the model gives no meaning. -/
inductive Refusal where
  /-- Raised by a refused arm of `exec` only; no arm is refused. SAFE. -/
  | notModelled (mnemonic : String)
  /-- Raised by `executeOne` when the decoder rejects the fetched bytes. It never happens: three bytes always hold an
  instruction (Laws/Decode.lean). SAFE. -/
  | undecodable
  /-- Raised by `construct` (R148): an image shorter than 0x150 bytes. SAFE: no core exists. -/
  | imageTooShort (len : Nat)
  /-- Raised by `construct` (R132, R148): a type byte outside the admitted table. SAFE: no core exists. -/
  | cartridgeType (byte : Byte)
  /-- Raised by `construct` (R134, R148): a RAM-size code outside the table. SAFE: no core exists. -/
  | ramSizeCode (byte : Byte)
  deriving DecidableEq, Repr

/-- What `exec`, `step` and every meaning answer. -/
abbrev Result := Host.Outcome State Fault Refusal

/-- The machine right after reset (R66, R70, R503, R448, R532), in `BOOT_MODE = post_boot`, the mode in which the spec
gives every register a value (DESIGN CHOICE, log 2). Memories list nothing: unspecified memory is drawn as zeros
(log 4, unsafe); the cartridge is a 32 KiB ROM-only image of zeros (log 3, unsafe). It is `construct` of
`BuildArgs.default` (Laws/Construct.lean). -/
def State.reset : State where
  regs := { a := 0x01, f := 0xB0, b := 0x00, c := 0x13, d := 0x00, e := 0xD8, h := 0x01, l := 0x4D,
            sp := 0xFFFE, pc := 0x0100 }
  ctl := { ime := false, eiPending := false, halted := false, stopped := false, haltBugLatch := false,
           wait := 0, fatal := none }
  intr := { pending := 0, enabled := 0, ieHi := 0 }
  timer := { div16 := 0, tima := 0, tma := 0, tac := 0, tacc := 0 }
  ppu := { mode := .oamSearch, modeDot := 0, ly := 0, composed := false, lcdOffSeen := false,
           lcdc := 0x91, statEn := 0, statLyc := true, scy := 0, scx := 0, lyc := 0, dma := 0xFF,
           bgp := 0xFC, obp0 := 0xFF, obp1 := 0xFF, wy := 0, wx := 0 }
  io := { bootOverlay := false, sb := 0, sc := 0, joypSel := 0b11,
          buttons := { up := false, down := false, left := false, right := false,
                       a := false, b := false, select := false, start := false } }
  cart := { family := .romOnly, rom := [], romLen := 0x8000, ram := [], ramLen := 0,
            romLo5 := 1, bankHi2 := 0, bankMode := false, ramEnable := false }
  mem := []
  pixels := []
  params := Params.default

end Sys2Proof.Machine
end

