-- ==== Sys2Proof/Machine/Store.lean ====
section
/-!
DEFINITION. Sparse memories: a list of (key, value) pairs in one canonical form. An unlisted key reads as 0 (log 4).
A write of 0 removes the key, so that equal contents are equal lists.
-/

namespace Sys2Proof.Machine

/-- What an unlisted key reads as: the one definition of the package (log 4). -/
def Store.unlisted (n : Nat) : BitVec n := 0

/-- The value at a key. -/
def Store.read {n : Nat} (st : List (Nat × BitVec n)) (a : Nat) : BitVec n :=
  match st with
  | [] => Store.unlisted n
  | (k, v) :: t => if k = a then v else Store.read t a

/-- Remove a key. -/
def Store.erase {n : Nat} (st : List (Nat × BitVec n)) (a : Nat) : List (Nat × BitVec n) :=
  match st with
  | [] => []
  | (k, v) :: t => if k = a then Store.erase t a else (k, v) :: Store.erase t a

/-- Put a value at a key, keeping the keys rising. -/
def Store.insert {n : Nat} (st : List (Nat × BitVec n)) (a : Nat) (v : BitVec n) : List (Nat × BitVec n) :=
  match st with
  | [] => [(a, v)]
  | (k, w) :: t =>
    if a < k then (a, v) :: (k, w) :: t
    else if a = k then (a, v) :: t
    else (k, w) :: Store.insert t a v

/-- Store a value at a key, keeping the canonical form. -/
def Store.write {n : Nat} (st : List (Nat × BitVec n)) (a : Nat) (v : BitVec n) : List (Nat × BitVec n) :=
  if v = Store.unlisted n then Store.erase st a else Store.insert st a v

/-- The canonical form above a lower bound: keys at least `lo`, strictly rising, no value equal to the unlisted one. -/
def Store.wfFrom {n : Nat} (lo : Nat) (st : List (Nat × BitVec n)) : Bool :=
  match st with
  | [] => true
  | (k, v) :: t => decide (lo ≤ k) && decide (v ≠ Store.unlisted n) && Store.wfFrom (k + 1) t

/-- The canonical form of a pixel buffer or any other store. -/
def Store.wf {n : Nat} (st : List (Nat × BitVec n)) : Bool := Store.wfFrom 0 st

/-- The canonical form of a byte memory. -/
def Memory.wf (m : Memory) : Bool := Store.wf m

/-- Build a canonical store from any list of pairs, a later pair for a key replacing an earlier one, keeping only the
keys that a test admits. -/
def Store.ofList {n : Nat} (keep : Nat → Bool) (cells : List (Nat × BitVec n)) : List (Nat × BitVec n) :=
  cells.foldl (fun st c => if keep c.1 then Store.write st c.1 c.2 else st) []

end Sys2Proof.Machine
end

