-- ==== Sys2Proof/Machine/Cart.lean ====
section
/-!
DEFINITION. Cartridge bank-switch control (21_cartridge.md R130-R148): the header, the two families, the MBC1
registers and the address translation. No access raises anything (R147).
-/

namespace Sys2Proof.Machine

/-- The sentinel of unmapped, disabled and out-of-range reads (R6, R147). -/
def sentinel : Byte := 0xFF

/-- The smallest image that has a header (R131, R148). -/
def minImageLen : Nat := 0x150

/-- Header offset of the type byte (R131). -/
def headerType : Nat := 0x147

/-- Header offset of the RAM-size code (R131). -/
def headerRamSize : Nat := 0x149

/-- R132: the family a type byte selects; `none` for a type byte that is refused. -/
def familyOfType (t : Byte) : Option Family :=
  if t = 0x00 then some .romOnly
  else if t = 0x01 then some .mbc1
  else if t = 0x02 then some .mbc1
  else if t = 0x03 then some .mbc1
  else none

/-- R134: the RAM length an MBC1 image's RAM-size code gives; `none` for a code that is refused. -/
def ramLenOfCode (code : Byte) : Option Nat :=
  if code = 0x00 then some 0
  else if code = 0x01 then some 2048
  else if code = 0x02 then some 8192
  else if code = 0x03 then some 32768
  else if code = 0x04 then some 131072
  else if code = 0x05 then some 65536
  else none

/-- `rom[off]` if `off < len(rom)`, else 0xFF: reads outside the image do not wrap (R133, R135, R141). -/
def romByte (c : Cart) (off : Nat) : Byte :=
  if off < c.romLen then Store.read c.rom off else sentinel

/-- R140: the effective ROM bank of the switchable window. -/
def romBank (c : Cart) : Nat :=
  if c.bankMode then c.romLo5.toNat else c.bankHi2.toNat * 32 + c.romLo5.toNat

/-- R142: the effective RAM bank. -/
def ramBank (c : Cart) : Nat :=
  if c.bankMode then c.bankHi2.toNat else 0

/-- The physical ROM offset of a ROM-window address `n` in 0x0000..0x7FFF (R135, R141). -/
def romOffset (c : Cart) (n : Nat) : Nat :=
  match c.family with
  | .romOnly => n
  | .mbc1 => if n ≤ 0x3FFF then n else romBank c * 0x4000 + (n - 0x4000)

/-- The physical RAM offset of a RAM-window address `n` in 0xA000..0xBFFF (R143, R144). -/
def ramOffset (c : Cart) (n : Nat) : Nat :=
  ramBank c * 0x2000 + (n - 0xA000)

/-- A RAM-window access reaches a byte of `ram`: the family has RAM, the latch is set and the offset is in range
(R135, R143, R144). -/
def ramReached (c : Cart) (n : Nat) : Bool :=
  match c.family with
  | .romOnly => false
  | .mbc1 => c.ramEnable && decide (ramOffset c n < c.ramLen)

/-- `cart_read` in the ROM windows (R135, R141). -/
def cartReadRom (c : Cart) (n : Nat) : Byte :=
  romByte c (romOffset c n)

/-- `cart_read` in the RAM window (R135, R143). -/
def cartReadRam (c : Cart) (n : Nat) : Byte :=
  if ramReached c n then Store.read c.ram (ramOffset c n) else sentinel

/-- R136: the RAM-enable latch, written at 0x0000..0x1FFF. -/
def writeRamEnable (c : Cart) (v : Byte) : Cart :=
  { c with ramEnable := decide (field v 0 4 = 0x0A) }

/-- R137: the low ROM-bank register, written at 0x2000..0x3FFF; 0 is normalised to 1. -/
def writeRomLo5 (c : Cart) (v : Byte) : Cart :=
  { c with romLo5 := if field v 0 5 = 0 then 1 else field v 0 5 }

/-- R138: the shared 2-bit field, written at 0x4000..0x5FFF. -/
def writeBankHi2 (c : Cart) (v : Byte) : Cart :=
  { c with bankHi2 := field v 0 2 }

/-- R139: the banking-mode bit, written at 0x6000..0x7FFF. -/
def writeBankMode (c : Cart) (v : Byte) : Cart :=
  { c with bankMode := bitOf v 0 }

/-- `cart_write` in the ROM windows: the control registers, or nothing on a ROM-only cartridge (R86, R135-R139). -/
def cartWriteControl (c : Cart) (n : Nat) (v : Byte) : Cart :=
  match c.family with
  | .romOnly => c
  | .mbc1 =>
    if n ≤ 0x1FFF then writeRamEnable c v
    else if n ≤ 0x3FFF then writeRomLo5 c v
    else if n ≤ 0x5FFF then writeBankHi2 c v
    else writeBankMode c v

/-- `cart_write` in the RAM window (R135, R144). -/
def cartWriteRam (c : Cart) (n : Nat) (v : Byte) : Cart :=
  if ramReached c n then { c with ram := Store.write c.ram (ramOffset c n) v } else c

end Sys2Proof.Machine
end

