-- ==== Sys2Proof/Machine/Bus.lean ====
section
/-!
DEFINITION. The address-space dispatcher (20_memory.md R80-R112): who owns an address, the one-byte read and write,
the I/O registers, and OAM DMA (62_ppu.md R500), which is a write's side effect.
-/

namespace Sys2Proof.Machine

/-- The owners of R80. -/
inductive Owner where
  | bootOverlay | cartRom | vram | cartRam | wram | oam | unmapped | io | hram | ie
  deriving DecidableEq, Repr

/-- R80, R84: the owner of an address. The overlay shadows the bottom 256 addresses while it is active. -/
def ownerOf (overlay : Bool) (a : Word) : Owner :=
  let n := a.toNat
  if overlay && decide (n ≤ 0x00FF) then .bootOverlay
  else if n ≤ 0x7FFF then .cartRom
  else if n ≤ 0x9FFF then .vram
  else if n ≤ 0xBFFF then .cartRam
  else if n ≤ 0xFDFF then .wram
  else if n ≤ 0xFE9F then .oam
  else if n ≤ 0xFEFF then .unmapped
  else if n ≤ 0xFF7F then .io
  else if n ≤ 0xFFFE then .hram
  else .ie

/-- The key in `State.mem` of an address of plain storage. The mirrored window reaches the cells of working RAM
(R88). -/
def cellOf (a : Word) : Nat :=
  let n := a.toNat
  if 0xE000 ≤ n ∧ n ≤ 0xFDFF then n - 0x2000 else n

/-- The I/O registers of R93. -/
inductive IoReg where
  | joyp | sb | sc | div | tima | tma | tac | intFlag | apu | lcdc | stat | scy | scx | ly | lyc | dma
  | bgp | obp0 | obp1 | wy | wx | boot | unmapped
  deriving DecidableEq, Repr

/-- R93: the register at an I/O address; every address the table does not list is unmapped (R94). -/
def ioReg (a : Word) : IoReg :=
  if a = 0xFF00 then .joyp
  else if a = 0xFF01 then .sb
  else if a = 0xFF02 then .sc
  else if a = 0xFF04 then .div
  else if a = 0xFF05 then .tima
  else if a = 0xFF06 then .tma
  else if a = 0xFF07 then .tac
  else if a = 0xFF0F then .intFlag
  else if 0xFF10 ≤ a.toNat ∧ a.toNat ≤ 0xFF3F then .apu
  else if a = 0xFF40 then .lcdc
  else if a = 0xFF41 then .stat
  else if a = 0xFF42 then .scy
  else if a = 0xFF43 then .scx
  else if a = 0xFF44 then .ly
  else if a = 0xFF45 then .lyc
  else if a = 0xFF46 then .dma
  else if a = 0xFF47 then .bgp
  else if a = 0xFF48 then .obp0
  else if a = 0xFF49 then .obp1
  else if a = 0xFF4A then .wy
  else if a = 0xFF4B then .wx
  else if a = 0xFF50 then .boot
  else .unmapped

/-- R97: one line of the joypad register: 0 when a selected group's button is pressed. `sel` is JOYP_SEL. -/
def joypLine (sel : BitVec 2) (direction action : Bool) : Bool :=
  !((!sel.getLsbD 0 && direction) || (!sel.getLsbD 1 && action))

/-- R97: `0xC0 | JOYP_SEL << 4 | lines`. -/
def joypByte (io : Io) : Byte :=
  let b := io.buttons
  (0b11#2 ++ io.joypSel) ++
    (BitVec.ofBool (joypLine io.joypSel b.down b.start) ++ BitVec.ofBool (joypLine io.joypSel b.up b.select) ++
      BitVec.ofBool (joypLine io.joypSel b.left b.b) ++ BitVec.ofBool (joypLine io.joypSel b.right b.a))

/-- The codes of STAT[1:0] (R48). -/
def PpuMode.code : PpuMode → BitVec 2
  | .hblank => 0
  | .vblank => 1
  | .oamSearch => 2
  | .pixelTransfer => 3

/-- R482: `0x80 | STAT_EN << 3 | STAT_LYC << 2 | mode`. -/
def statByte (p : Ppu) : Byte :=
  (1#1 ++ p.statEn) ++ (BitVec.ofBool p.statLyc ++ p.mode.code)

/-- R413: `0xE0 | IF`. -/
def intFlagByte (i : Intr) : Byte := 0b111#3 ++ i.pending

/-- R414: `{ie_hi, IE}`. -/
def intEnableByte (i : Intr) : Byte := i.ieHi ++ i.enabled

/-- R447: `0xF8 | TAC`. -/
def tacByte (t : Timer) : Byte := 0b11111#5 ++ t.tac

/-- `io_read` (R93-R97). -/
def ioRead (s : State) (a : Word) : Byte :=
  match ioReg a with
  | .joyp => joypByte s.io
  | .sb => s.io.sb
  | .sc => s.io.sc
  | .div => hiByte s.timer.div16
  | .tima => s.timer.tima
  | .tma => s.timer.tma
  | .tac => tacByte s.timer
  | .intFlag => intFlagByte s.intr
  | .apu => Store.read s.mem (cellOf a)
  | .lcdc => s.ppu.lcdc
  | .stat => statByte s.ppu
  | .scy => s.ppu.scy
  | .scx => s.ppu.scx
  | .ly => BitVec.ofNat 8 s.ppu.ly
  | .lyc => s.ppu.lyc
  | .dma => s.ppu.dma
  | .bgp => s.ppu.bgp
  | .obp0 => s.ppu.obp0
  | .obp1 => s.ppu.obp1
  | .wy => s.ppu.wy
  | .wx => s.ppu.wx
  | .boot => sentinel
  | .unmapped => sentinel

/-- `read(a)` (R84). Reads change nothing (R102). -/
def readByte (s : State) (a : Word) : Byte :=
  match ownerOf s.io.bootOverlay a with
  | .bootOverlay => Store.read s.params.bootRom a.toNat
  | .cartRom => cartReadRom s.cart a.toNat
  | .vram => Store.read s.mem (cellOf a)
  | .cartRam => cartReadRam s.cart a.toNat
  | .wram => Store.read s.mem (cellOf a)
  | .oam => Store.read s.mem (cellOf a)
  | .unmapped => sentinel
  | .io => ioRead s a
  | .hram => Store.read s.mem (cellOf a)
  | .ie => intEnableByte s.intr

/-- A byte stored in plain storage (VRAM, WRAM and its mirror, OAM, APU_REGS, HRAM). -/
def writeCell (s : State) (n : Nat) (v : Byte) : State :=
  { s with mem := Store.write s.mem n v }

/-- The first byte of OAM (R90). -/
def oamBase : Nat := 0xFE00

/-- R500: one byte of the OAM DMA copy, `OAM[i] <- MemRead(v*256 + i, 1)`. -/
def oamDmaByte (v : Byte) (s : State) (i : Nat) : State :=
  writeCell s (oamBase + i) (readByte s (trunc16 (v.toNat * 256 + i)))

/-- R500: the 160 bytes of an OAM DMA, in order. `DMA_TIMING = instant` (R501). -/
def oamDma (v : Byte) (s : State) : State :=
  (List.range 160).foldl (oamDmaByte v) s

/-- `io_write` (R92-R97). -/
def ioWrite (s : State) (a : Word) (v : Byte) : State :=
  match ioReg a with
  | .joyp => { s with io := { s.io with joypSel := field v 4 2 } }
  | .sb => { s with io := { s.io with sb := v } }
  | .sc => { s with io := { s.io with sc := v } }
  | .div => { s with timer := { s.timer with div16 := 0 } }
  | .tima => { s with timer := { s.timer with tima := v } }
  | .tma => { s with timer := { s.timer with tma := v } }
  | .tac => { s with timer := { s.timer with tac := field v 0 3 } }
  | .intFlag => { s with intr := { s.intr with pending := field v 0 5 } }
  | .apu => writeCell s (cellOf a) v
  | .lcdc => { s with ppu := { s.ppu with lcdc := v } }
  | .stat => { s with ppu := { s.ppu with statEn := field v 3 4 } }
  | .scy => { s with ppu := { s.ppu with scy := v } }
  | .scx => { s with ppu := { s.ppu with scx := v } }
  | .ly => s
  | .lyc => { s with ppu := { s.ppu with lyc := v } }
  | .dma => oamDma v { s with ppu := { s.ppu with dma := v } }
  | .bgp => { s with ppu := { s.ppu with bgp := v } }
  | .obp0 => { s with ppu := { s.ppu with obp0 := v } }
  | .obp1 => { s with ppu := { s.ppu with obp1 := v } }
  | .wy => { s with ppu := { s.ppu with wy := v } }
  | .wx => { s with ppu := { s.ppu with wx := v } }
  | .boot => if v = 0 then s else { s with io := { s.io with bootOverlay := false } }
  | .unmapped => s

/-- `write(a, v)` (R85). The boot overlay does not shadow writes (R91). -/
def writeByte (s : State) (a : Word) (v : Byte) : State :=
  match ownerOf false a with
  | .bootOverlay => s
  | .cartRom => { s with cart := cartWriteControl s.cart a.toNat v }
  | .vram => writeCell s (cellOf a) v
  | .cartRam => { s with cart := cartWriteRam s.cart a.toNat v }
  | .wram => writeCell s (cellOf a) v
  | .oam => writeCell s (cellOf a) v
  | .unmapped => s
  | .io => ioWrite s a v
  | .hram => writeCell s (cellOf a) v
  | .ie => { s with intr := { s.intr with enabled := field v 0 5, ieHi := field v 5 3 } }

/-- Two addresses that reach the same byte of plain storage: the same address, or the two ends of the mirrored
window (R88). -/
def sameCell (a b : Word) : Bool :=
  decide (cellOf a = cellOf b)

/-- The addresses whose read a store to `a` may change (R88, R94, R103): the stored byte itself and its mirror; for the
cartridge's control registers the windows they map (R136-R144); for DMA also OAM (R500); for BOOT the overlay's
addresses (R92); nothing for LY, unmapped addresses and the boot ROM's own bytes. -/
def storeReaches (a b : Word) : Bool :=
  match ownerOf false a with
  | .bootOverlay => false
  | .cartRom =>
    (decide (a.toNat ≤ 0x1FFF) && decide (ownerOf false b = .cartRam)) ||
    (decide (0x2000 ≤ a.toNat ∧ a.toNat ≤ 0x3FFF) && decide (0x4000 ≤ b.toNat ∧ b.toNat ≤ 0x7FFF)) ||
    (decide (0x4000 ≤ a.toNat) && (decide (0x4000 ≤ b.toNat ∧ b.toNat ≤ 0x7FFF) || decide (ownerOf false b = .cartRam)))
  | .unmapped => false
  | .io =>
    match ioReg a with
    | .dma => decide (b = a) || decide (ownerOf false b = .oam)
    | .boot => decide (b.toNat ≤ 0x00FF)
    | .ly => false
    | .unmapped => false
    | _ => decide (b = a)
  | _ => sameCell a b

end Sys2Proof.Machine
end

