-- ==== Sys2Proof/Machine/Ops.lean ====
section
/-!
DEFINITION. The named operations the meanings share: advancing past an instruction's bytes (00_scope.md R12), the
instruction's cost (R14, 60_exceptions.md R401), the stack (R13), requesting an interrupt (R412), TAKING an interrupt
(R403, R409), returning from one (44_control.md R329), and the fatal decode error (R405).
-/

namespace Sys2Proof.Machine

/-- Set PC. -/
def State.setPc (s : State) (w : Word) : State := { s with regs := { s.regs with pc := w } }

/-- Set SP. -/
def State.setSp (s : State) (w : Word) : State := { s with regs := { s.regs with sp := w } }

/-- Set the dots remaining (R40). -/
def State.setWait (s : State) (n : Nat) : State := { s with ctl := { s.ctl with wait := n } }

/-- Set `master_enable` (R37). -/
def State.setIme (s : State) (b : Bool) : State := { s with ctl := { s.ctl with ime := b } }

/-- Set `ei_pending` (R38). -/
def State.setEiPending (s : State) (b : Bool) : State := { s with ctl := { s.ctl with eiPending := b } }

/-- Set `halted` (R39). -/
def State.setHalted (s : State) (b : Bool) : State := { s with ctl := { s.ctl with halted := b } }

/-- Set `stopped` (R42). -/
def State.setStopped (s : State) (b : Bool) : State := { s with ctl := { s.ctl with stopped := b } }

/-- Set the latch of `HALT_BUG = double_read` (R351). -/
def State.setHaltBugLatch (s : State) (b : Bool) : State := { s with ctl := { s.ctl with haltBugLatch := b } }

/-- How far the opcode byte's fetch moves PC: 1, or 0 when the halt-bug latch is set (R12, R351). -/
def State.opcodeStep (s : State) : Word := if s.ctl.haltBugLatch then 0 else 1

/-- The state after the fetch of an instruction of `n` bytes (R12, R180): PC past its last byte, the latch spent. The
latch makes the opcode byte's own fetch leave PC where it is (R351). -/
def State.fetched (s : State) (n : Nat) : State :=
  (s.setPc (s.regs.pc + s.opcodeStep + trunc16 (n - 1))).setHaltBugLatch false

/-- The end of a meaning: `cost <- n` and the step's `wait <- cost` in one (R14, R401, R404; log 6). -/
def finish (cost : Nat) (s : State) : Result := .next (s.setWait cost)

/-- `push16(v)` (R13): the high byte first, at SP - 1, then the low byte, at SP - 2. -/
def push16 (v : Word) (s : State) : State :=
  let s1 := s.setSp (s.regs.sp - 1)
  let s2 := writeByte s1 s1.regs.sp (hiByte v)
  let s3 := s2.setSp (s2.regs.sp - 1)
  writeByte s3 s3.regs.sp (loByte v)

/-- `MemRead16(addr)` (R11): the low byte at the lower address. -/
def readWord (s : State) (a : Word) : Word := mkWord (readByte s (a + 1)) (readByte s a)

/-- The value `pop16()` returns (R13). -/
def stackTop (s : State) : Word := readWord s s.regs.sp

/-- The state `pop16()` leaves (R13): SP past the two bytes. -/
def dropTop (s : State) : State := s.setSp (s.regs.sp + 2)

/-- `IF & IE` (R402): the sources that are pending and enabled. -/
def eligible (i : Intr) : BitVec 5 := i.pending &&& i.enabled

/-- Some source is pending and enabled. -/
def anyEligible (i : Intr) : Bool := decide (eligible i ≠ 0)

/-- `request(k)` (R412): idempotent. -/
def requestInt (k : Nat) (i : Intr) : Intr := { i with pending := i.pending ||| (1#5 <<< k) }

/-- `request(k)` on the whole state. -/
def request (k : Nat) (s : State) : State := { s with intr := requestInt k s.intr }

/-- R403: the lowest index set in `IF & IE`. -/
def lowestEligible (i : Intr) : Nat :=
  let e := eligible i
  if e.getLsbD 0 then 0
  else if e.getLsbD 1 then 1
  else if e.getLsbD 2 then 2
  else if e.getLsbD 3 then 3
  else 4

/-- `IF[k] <- 0` (R403). -/
def clearPending (k : Nat) (s : State) : State :=
  { s with intr := { s.intr with pending := s.intr.pending &&& ~~~(1#5 <<< k) } }

/-- R43, R403: the vector of source `k`, `0x0040 + 8*k`. -/
def vectorOf (k : Nat) : Word := trunc16 (0x0040 + 8 * k)

/-- Dots an interrupt service occupies (R6, R403). -/
def serviceCost : Nat := 20

/-- TAKING AN INTERRUPT: `service()` of R403 with R409. The source is chosen before the pushes, so a push into IE changes
neither it nor the vector (decision D11). Saved: PC, on the stack. Cleared: IF[k], IME, `ei_pending`, `halted`. -/
def takeInterrupt (s : State) : State :=
  let k := lowestEligible s.intr
  let s1 := (((clearPending k s).setIme false).setEiPending false).setHalted false
  ((push16 s1.regs.pc s1).setPc (vectorOf k)).setWait serviceCost

/-- RETURNING FROM AN INTERRUPT: `PC <- pop16(); IME <- 1`, at once (R329, R410). `ei_pending` is not changed. -/
def returnFromInterrupt (s : State) : State :=
  ((dropTop s).setPc (stackTop s)).setIme true

/-- `raise UnimplementedOpcode(op, a0)` (R405, R355) at the state whose PC is `a0`: `fatal` records the byte and its
address, PC keeps the value after the opcode byte's fetch, nothing else changes (not even `wait`). -/
def raiseUnimplemented (op : Byte) (s : State) : State :=
  let s1 := s.fetched 1
  { s1 with ctl := { s1.ctl with fatal := some { byte := op, addr := s.regs.pc } } }

end Sys2Proof.Machine
end

