-- ==== Sys2Proof/Machine/Operands.lean ====
section
/-!
DEFINITION. Every operand form of 30_encoding.md R166-R170: the register and pair tables, the memory operand at HL,
immediates, conditions, and the one accessor through which each register is read and written (10_state.md R30, R31).
-/

namespace Sys2Proof.Machine

/-- The registers of the table `r8` (R166). F is not among them (R30). -/
inductive Reg8 where
  | b | c | d | e | h | l | a
  deriving DecidableEq, Repr

/-- An entry of the table `r8` (R166): a register, or index 6, the memory byte at HL. -/
inductive Operand8 where
  | reg (r : Reg8)
  | memHL
  deriving DecidableEq, Repr

/-- The table `rp` (R167). -/
inductive Pair where
  | bc | de | hl | sp
  deriving DecidableEq, Repr

/-- The table `rp2` (R168), used by PUSH and POP. -/
inductive StackPair where
  | bc | de | hl | af
  deriving DecidableEq, Repr

/-- The table `cc` (R169). -/
inductive Cond where
  | nz | z | nc | c
  deriving DecidableEq, Repr

/-- R166: the table `r8[i]`. -/
def r8Table (i : BitVec 3) : Operand8 :=
  if i = 0 then .reg .b
  else if i = 1 then .reg .c
  else if i = 2 then .reg .d
  else if i = 3 then .reg .e
  else if i = 4 then .reg .h
  else if i = 5 then .reg .l
  else if i = 6 then .memHL
  else .reg .a

/-- Read an 8-bit register. -/
def State.reg (s : State) : Reg8 → Byte
  | .b => s.regs.b
  | .c => s.regs.c
  | .d => s.regs.d
  | .e => s.regs.e
  | .h => s.regs.h
  | .l => s.regs.l
  | .a => s.regs.a

/-- Write an 8-bit register. -/
def State.setReg (s : State) (r : Reg8) (v : Byte) : State :=
  match r with
  | .b => { s with regs := { s.regs with b := v } }
  | .c => { s with regs := { s.regs with c := v } }
  | .d => { s with regs := { s.regs with d := v } }
  | .e => { s with regs := { s.regs with e := v } }
  | .h => { s with regs := { s.regs with h := v } }
  | .l => { s with regs := { s.regs with l := v } }
  | .a => { s with regs := { s.regs with a := v } }

/-- R34: a whole-byte write of F keeps bits 7..4 and stores 0 in bits 3..0. -/
def flagByteMask : Byte := 0xF0

/-- BC = {B, C} (R31). -/
def State.bc (s : State) : Word := mkWord s.regs.b s.regs.c

/-- DE = {D, E} (R31). -/
def State.de (s : State) : Word := mkWord s.regs.d s.regs.e

/-- HL = {H, L} (R31). -/
def State.hl (s : State) : Word := mkWord s.regs.h s.regs.l

/-- AF = {A, F} (R31). -/
def State.af (s : State) : Word := mkWord s.regs.a s.regs.f

/-- Write BC: both halves (R31). -/
def State.setBc (s : State) (w : Word) : State := { s with regs := { s.regs with b := hiByte w, c := loByte w } }

/-- Write DE: both halves (R31). -/
def State.setDe (s : State) (w : Word) : State := { s with regs := { s.regs with d := hiByte w, e := loByte w } }

/-- Write HL: both halves (R31). -/
def State.setHl (s : State) (w : Word) : State := { s with regs := { s.regs with h := hiByte w, l := loByte w } }

/-- Write AF: A whole, F masked (R31, R34). -/
def State.setAf (s : State) (w : Word) : State :=
  { s with regs := { s.regs with a := hiByte w, f := loByte w &&& flagByteMask } }

/-- Read `rp[p]` (R167). -/
def State.pair (s : State) : Pair → Word
  | .bc => s.bc
  | .de => s.de
  | .hl => s.hl
  | .sp => s.regs.sp

/-- Write `rp[p]` (R167). -/
def State.setPair (s : State) (p : Pair) (w : Word) : State :=
  match p with
  | .bc => s.setBc w
  | .de => s.setDe w
  | .hl => s.setHl w
  | .sp => s.setSp w

/-- Read `rp2[p]` (R168). -/
def State.stackPair (s : State) : StackPair → Word
  | .bc => s.bc
  | .de => s.de
  | .hl => s.hl
  | .af => s.af

/-- Write `rp2[p]` (R168). -/
def State.setStackPair (s : State) (p : StackPair) (w : Word) : State :=
  match p with
  | .bc => s.setBc w
  | .de => s.setDe w
  | .hl => s.setHl w
  | .af => s.setAf w

/-- Read an 8-bit operand: a register or `MemRead(HL, 1)` (R166). -/
def readOperand (s : State) : Operand8 → Byte
  | .reg r => s.reg r
  | .memHL => readByte s s.hl

/-- Write an 8-bit operand: a register or `MemWrite(HL, 1, v)` (R166). -/
def writeOperand (o : Operand8) (v : Byte) (s : State) : State :=
  match o with
  | .reg r => s.setReg r v
  | .memHL => writeByte s s.hl v

/-- R170: `0xFF00 + a8`, the high-page address of an 8-bit offset. -/
def highPage (a8 : Byte) : Word := mkWord 0xFF a8

end Sys2Proof.Machine
end

