-- ==== Sys2Proof/Machine/Flags.lean ====
section
/-!
DEFINITION. The flags byte (10_state.md R33-R35) and every computation that writes it: 8-bit arithmetic and logic
(41_alu8.md), 16-bit sums (42_alu16.md), rotates, shifts and bit tests (43_rotate_bit.md). Sums are exact on natural
numbers and narrowed at the end.
-/

namespace Sys2Proof.Machine

/-- The four flag bits (R33). -/
structure Flags where
  z : Bool
  n : Bool
  h : Bool
  c : Bool
  deriving DecidableEq, Repr

/-- The flags byte: Z, N, H, C in bits 7..4, bits 3..0 zero (R33, R34). -/
def Flags.toByte (f : Flags) : Byte :=
  (BitVec.ofBool f.z ++ BitVec.ofBool f.n) ++ (BitVec.ofBool f.h ++ BitVec.ofBool f.c) ++ 0#4

/-- The flag bits of a byte (R33). -/
def Flags.ofByte (v : Byte) : Flags :=
  { z := bitOf v 7, n := bitOf v 6, h := bitOf v 5, c := bitOf v 4 }

/-- The flags the CPU holds. -/
def State.flags (s : State) : Flags := Flags.ofByte s.regs.f

/-- Write all four flag bits. -/
def State.setFlags (s : State) (f : Flags) : State := { s with regs := { s.regs with f := f.toByte } }

/-- R169: when a condition is true. -/
def condHolds (cc : Cond) (f : Flags) : Bool :=
  match cc with
  | .nz => !f.z
  | .z => f.z
  | .nc => !f.c
  | .c => f.c

/-- An 8-bit result with the flags that go with it. -/
structure Out8 where
  result : Byte
  flags : Flags
  deriving DecidableEq, Repr

/-- The low nibble as a number. -/
def lowNibble (v : Byte) : Nat := v.toNat % 16

/-- R240, R241: `A + v + cin`, with the carries out of bits 3 and 7. -/
def addWithCarry (a v : Byte) (cin : Bool) : Out8 :=
  let t := a.toNat + v.toNat + bitNat cin
  { result := trunc8 t,
    flags := { z := decide (trunc8 t = 0), n := false,
               h := decide (lowNibble a + lowNibble v + bitNat cin > 0xF),
               c := decide (t > 0xFF) } }

/-- R242, R243: `A - v - cin`, with the borrows into bits 4 and 8. -/
def subWithBorrow (a v : Byte) (cin : Bool) : Out8 :=
  let r := a - v - bitByte cin
  { result := r,
    flags := { z := decide (r = 0), n := true,
               h := decide (lowNibble a < lowNibble v + bitNat cin),
               c := decide (a.toNat < v.toNat + bitNat cin) } }

/-- R244: AND forces H to 1 and C to 0. -/
def andOut (a v : Byte) : Out8 :=
  { result := a &&& v, flags := { z := decide (a &&& v = 0), n := false, h := true, c := false } }

/-- R245: XOR. -/
def xorOut (a v : Byte) : Out8 :=
  { result := a ^^^ v, flags := { z := decide (a ^^^ v = 0), n := false, h := false, c := false } }

/-- R246: OR. -/
def orOut (a v : Byte) : Out8 :=
  { result := a ||| v, flags := { z := decide (a ||| v = 0), n := false, h := false, c := false } }

/-- The table `alu` (R171). -/
inductive AluOp where
  | add | adc | sub | sbc | and | xor | or | cp
  deriving DecidableEq, Repr

/-- R240-R247: the value left in A and the flags. CP compares as SUB does and leaves A (R247). -/
def aluOut (op : AluOp) (a v : Byte) (cin : Bool) : Out8 :=
  match op with
  | .add => addWithCarry a v false
  | .adc => addWithCarry a v cin
  | .sub => subWithBorrow a v false
  | .sbc => subWithBorrow a v cin
  | .and => andOut a v
  | .xor => xorOut a v
  | .or => orOut a v
  | .cp => { result := a, flags := (subWithBorrow a v false).flags }

/-- R248, R249: increment; C is kept. -/
def incOut (o : Byte) (f : Flags) : Out8 :=
  let t := o + 1
  { result := t, flags := { z := decide (t = 0), n := false, h := decide (lowNibble o = 0xF), c := f.c } }

/-- R250, R251: decrement; C is kept. -/
def decOut (o : Byte) (f : Flags) : Out8 :=
  let t := o - 1
  { result := t, flags := { z := decide (t = 0), n := true, h := decide (lowNibble o = 0x0), c := f.c } }

/-- R252, N = 0: whether the high adjustment is applied (it also sets C). -/
def daaHigh (a : Byte) (f : Flags) : Bool := f.c || decide (a.toNat > 0x99)

/-- R252, N = 0: whether the low adjustment is applied. -/
def daaLow (a : Byte) (f : Flags) : Bool := f.h || decide (lowNibble a > 0x09)

/-- R252: decimal adjustment of A. -/
def daaOut (a : Byte) (f : Flags) : Out8 :=
  let r : Byte :=
    if f.n then a - (if f.c then 0x60 else 0x00) - (if f.h then 0x06 else 0x00)
    else a + (if daaHigh a f then 0x60 else 0x00) + (if daaLow a f then 0x06 else 0x00)
  let c : Bool := if f.n then f.c else daaHigh a f
  { result := r, flags := { z := decide (r = 0), n := f.n, h := false, c := c } }

/-- The rotate and shift operations: the accumulator rotates use the first four (R290-R293), the CB group all eight
(table `rot`, R171). -/
inductive RotOp where
  | rlc | rrc | rl | rr | sla | sra | swap | srl
  deriving DecidableEq, Repr

/-- R295-R302: the rotated or shifted byte. -/
def rotResult (op : RotOp) (v : Byte) (cin : Bool) : Byte :=
  match op with
  | .rlc => (v <<< 1) ||| bitByte (bitOf v 7)
  | .rrc => (v >>> 1) ||| (bitByte (bitOf v 0) <<< 7)
  | .rl => (v <<< 1) ||| bitByte cin
  | .rr => (v >>> 1) ||| (bitByte cin <<< 7)
  | .sla => v <<< 1
  | .sra => (v >>> 1) ||| (v &&& 0x80)
  | .swap => ((v &&& 0x0F) <<< 4) ||| (v >>> 4)
  | .srl => v >>> 1

/-- R295-R302: the bit moved into C; SWAP clears it. -/
def rotCarry (op : RotOp) (v : Byte) : Bool :=
  match op with
  | .rlc => bitOf v 7
  | .rrc => bitOf v 0
  | .rl => bitOf v 7
  | .rr => bitOf v 0
  | .sla => bitOf v 7
  | .sra => bitOf v 0
  | .swap => false
  | .srl => bitOf v 0

/-- R295-R302: the result and the flags of the CB group: Z computed, N = H = 0. -/
def rotOut (op : RotOp) (v : Byte) (cin : Bool) : Out8 :=
  let r := rotResult op v cin
  { result := r, flags := { z := decide (r = 0), n := false, h := false, c := rotCarry op v } }

/-- R290-R293: the accumulator rotates force Z to 0. -/
def rotAccOut (op : RotOp) (v : Byte) (cin : Bool) : Out8 :=
  { result := rotResult op v cin, flags := { z := false, n := false, h := false, c := rotCarry op v } }

/-- R303: the flags of BIT: Z is the bit's complement, H = 1, C kept. -/
def bitTestFlags (n : BitVec 3) (v : Byte) (f : Flags) : Flags :=
  { z := !bitOf v n.toNat, n := false, h := true, c := f.c }

/-- R304: the byte with bit `n` cleared. -/
def resBit (n : BitVec 3) (v : Byte) : Byte := v &&& ~~~((1 : Byte) <<< n.toNat)

/-- R305: the byte with bit `n` set. -/
def setBit (n : BitVec 3) (v : Byte) : Byte := v ||| ((1 : Byte) <<< n.toNat)

/-- R253: the flags of CPL. -/
def cplFlags (f : Flags) : Flags := { f with n := true, h := true }

/-- R254: the flags of SCF. -/
def scfFlags (f : Flags) : Flags := { f with n := false, h := false, c := true }

/-- R255: the flags of CCF. -/
def ccfFlags (f : Flags) : Flags := { f with n := false, h := false, c := !f.c }

/-- R270: the flags of ADD HL,rr: carries out of bits 11 and 15; Z kept. -/
def addHlFlags (hl v : Word) (f : Flags) : Flags :=
  { z := f.z, n := false,
    h := decide (hl.toNat % 0x1000 + v.toNat % 0x1000 > 0x0FFF),
    c := decide (hl.toNat + v.toNat > 0xFFFF) }

/-- R273, R274: the flags of SP + e8: the carries out of bits 3 and 7 of the unsigned low-byte sum; Z = N = 0. -/
def spDispFlags (sp : Word) (e : Byte) : Flags :=
  { z := false, n := false,
    h := decide (sp.toNat % 16 + e.toNat % 16 > 0x0F),
    c := decide (sp.toNat % 256 + e.toNat > 0xFF) }

end Sys2Proof.Machine
end

