-- ==== Sys2Proof/Machine/Alu16.lean ====
section
/-!
DEFINITION. 16-bit arithmetic (42_alu16.md R270-R274): the shared operations, then one meaning per instruction.
-/

namespace Sys2Proof.Machine

/-- R270. -/
def addHl (p : Pair) (s : State) : Result :=
  let s1 := s.fetched 1
  finish 8 ((s1.setHl (s1.hl + s1.pair p)).setFlags (addHlFlags s1.hl (s1.pair p) s1.flags))

/-- R271. -/
def incPair (p : Pair) (s : State) : Result :=
  let s1 := s.fetched 1
  finish 8 (s1.setPair p (s1.pair p + 1))

/-- R272. -/
def decPair (p : Pair) (s : State) : Result :=
  let s1 := s.fetched 1
  finish 8 (s1.setPair p (s1.pair p - 1))

/-- R273. -/
def addSpDisp (e : Byte) (s : State) : Result :=
  let s1 := s.fetched 2
  finish 16 ((s1.setSp (s1.regs.sp + sext16 e)).setFlags (spDispFlags s1.regs.sp e))

/-- R274. -/
def loadHlSpDisp (e : Byte) (s : State) : Result :=
  let s1 := s.fetched 2
  finish 12 ((s1.setHl (s1.regs.sp + sext16 e)).setFlags (spDispFlags s1.regs.sp e))

/-- INC BC (R271). -/
def execIncBC (s : State) : Result := incPair .bc s

/-- ADD HL,BC (R270). -/
def execAddHLBC (s : State) : Result := addHl .bc s

/-- DEC BC (R272). -/
def execDecBC (s : State) : Result := decPair .bc s

/-- INC DE (R271). -/
def execIncDE (s : State) : Result := incPair .de s

/-- ADD HL,DE (R270). -/
def execAddHLDE (s : State) : Result := addHl .de s

/-- DEC DE (R272). -/
def execDecDE (s : State) : Result := decPair .de s

/-- INC HL (R271). -/
def execIncHL (s : State) : Result := incPair .hl s

/-- ADD HL,HL (R270). -/
def execAddHLHL (s : State) : Result := addHl .hl s

/-- DEC HL (R272). -/
def execDecHL (s : State) : Result := decPair .hl s

/-- INC SP (R271). -/
def execIncSP (s : State) : Result := incPair .sp s

/-- ADD HL,SP (R270). -/
def execAddHLSP (s : State) : Result := addHl .sp s

/-- DEC SP (R272). -/
def execDecSP (s : State) : Result := decPair .sp s

/-- ADD SP,e8 (R273). -/
def execAddSPe8 (e : Byte) (s : State) : Result := addSpDisp e s

/-- LD HL,SP+e8 (R274). -/
def execLdHLSPe8 (e : Byte) (s : State) : Result := loadHlSpDisp e s

end Sys2Proof.Machine
end

