-- ==== Sys2Proof/Machine/Alu8.lean ====
section
/-!
DEFINITION. 8-bit arithmetic and logic (41_alu8.md R239-R255): the shared operations, then one meaning per
instruction.
-/

namespace Sys2Proof.Machine

/-- Write an 8-bit result to A with its flags. -/
def State.setAcc (s : State) (o : Out8) : State := (s.setReg .a o.result).setFlags o.flags

/-- R239, register form. -/
def aluReg (op : AluOp) (r : Reg8) (s : State) : Result :=
  let s1 := s.fetched 1
  finish 4 (s1.setAcc (aluOut op (s1.reg .a) (s1.reg r) s1.flags.c))

/-- R239, memory form. -/
def aluMem (op : AluOp) (s : State) : Result :=
  let s1 := s.fetched 1
  finish 8 (s1.setAcc (aluOut op (s1.reg .a) (readByte s1 s1.hl) s1.flags.c))

/-- R239, immediate form. -/
def aluImm (op : AluOp) (n : Byte) (s : State) : Result :=
  let s1 := s.fetched 2
  finish 8 (s1.setAcc (aluOut op (s1.reg .a) n s1.flags.c))

/-- R248. -/
def incReg (r : Reg8) (s : State) : Result :=
  let s1 := s.fetched 1
  let o := incOut (s1.reg r) s1.flags
  finish 4 ((s1.setReg r o.result).setFlags o.flags)

/-- R249. -/
def incMem (s : State) : Result :=
  let s1 := s.fetched 1
  let o := incOut (readByte s1 s1.hl) s1.flags
  finish 12 ((writeByte s1 s1.hl o.result).setFlags o.flags)

/-- R250. -/
def decReg (r : Reg8) (s : State) : Result :=
  let s1 := s.fetched 1
  let o := decOut (s1.reg r) s1.flags
  finish 4 ((s1.setReg r o.result).setFlags o.flags)

/-- R251. -/
def decMem (s : State) : Result :=
  let s1 := s.fetched 1
  let o := decOut (readByte s1 s1.hl) s1.flags
  finish 12 ((writeByte s1 s1.hl o.result).setFlags o.flags)

/-- R252. -/
def decimalAdjust (s : State) : Result :=
  let s1 := s.fetched 1
  finish 4 (s1.setAcc (daaOut (s1.reg .a) s1.flags))

/-- R253. -/
def complementAcc (s : State) : Result :=
  let s1 := s.fetched 1
  finish 4 ((s1.setReg .a (~~~(s1.reg .a))).setFlags (cplFlags s1.flags))

/-- R254. -/
def setCarry (s : State) : Result :=
  let s1 := s.fetched 1
  finish 4 (s1.setFlags (scfFlags s1.flags))

/-- R255. -/
def complementCarry (s : State) : Result :=
  let s1 := s.fetched 1
  finish 4 (s1.setFlags (ccfFlags s1.flags))

/-- INC B (R248). -/
def execIncB (s : State) : Result := incReg .b s

/-- DEC B (R250). -/
def execDecB (s : State) : Result := decReg .b s

/-- INC C (R248). -/
def execIncC (s : State) : Result := incReg .c s

/-- DEC C (R250). -/
def execDecC (s : State) : Result := decReg .c s

/-- INC D (R248). -/
def execIncD (s : State) : Result := incReg .d s

/-- DEC D (R250). -/
def execDecD (s : State) : Result := decReg .d s

/-- INC E (R248). -/
def execIncE (s : State) : Result := incReg .e s

/-- DEC E (R250). -/
def execDecE (s : State) : Result := decReg .e s

/-- INC H (R248). -/
def execIncH (s : State) : Result := incReg .h s

/-- DEC H (R250). -/
def execDecH (s : State) : Result := decReg .h s

/-- DAA (R252). -/
def execDaa (s : State) : Result := decimalAdjust s

/-- INC L (R248). -/
def execIncL (s : State) : Result := incReg .l s

/-- DEC L (R250). -/
def execDecL (s : State) : Result := decReg .l s

/-- CPL (R253). -/
def execCpl (s : State) : Result := complementAcc s

/-- INC (HL) (R249). -/
def execIncMemHL (s : State) : Result := incMem s

/-- DEC (HL) (R251). -/
def execDecMemHL (s : State) : Result := decMem s

/-- SCF (R254). -/
def execScf (s : State) : Result := setCarry s

/-- INC A (R248). -/
def execIncA (s : State) : Result := incReg .a s

/-- DEC A (R250). -/
def execDecA (s : State) : Result := decReg .a s

/-- CCF (R255). -/
def execCcf (s : State) : Result := complementCarry s

/-- ADD A,B (R240). -/
def execAddAB (s : State) : Result := aluReg .add .b s

/-- ADD A,C (R240). -/
def execAddAC (s : State) : Result := aluReg .add .c s

/-- ADD A,D (R240). -/
def execAddAD (s : State) : Result := aluReg .add .d s

/-- ADD A,E (R240). -/
def execAddAE (s : State) : Result := aluReg .add .e s

/-- ADD A,H (R240). -/
def execAddAH (s : State) : Result := aluReg .add .h s

/-- ADD A,L (R240). -/
def execAddAL (s : State) : Result := aluReg .add .l s

/-- ADD A,(HL) (R240). -/
def execAddAMemHL (s : State) : Result := aluMem .add s

/-- ADD A,A (R240). -/
def execAddAA (s : State) : Result := aluReg .add .a s

/-- ADC A,B (R241). -/
def execAdcAB (s : State) : Result := aluReg .adc .b s

/-- ADC A,C (R241). -/
def execAdcAC (s : State) : Result := aluReg .adc .c s

/-- ADC A,D (R241). -/
def execAdcAD (s : State) : Result := aluReg .adc .d s

/-- ADC A,E (R241). -/
def execAdcAE (s : State) : Result := aluReg .adc .e s

/-- ADC A,H (R241). -/
def execAdcAH (s : State) : Result := aluReg .adc .h s

/-- ADC A,L (R241). -/
def execAdcAL (s : State) : Result := aluReg .adc .l s

/-- ADC A,(HL) (R241). -/
def execAdcAMemHL (s : State) : Result := aluMem .adc s

/-- ADC A,A (R241). -/
def execAdcAA (s : State) : Result := aluReg .adc .a s

/-- SUB A,B (R242). -/
def execSubAB (s : State) : Result := aluReg .sub .b s

/-- SUB A,C (R242). -/
def execSubAC (s : State) : Result := aluReg .sub .c s

/-- SUB A,D (R242). -/
def execSubAD (s : State) : Result := aluReg .sub .d s

/-- SUB A,E (R242). -/
def execSubAE (s : State) : Result := aluReg .sub .e s

/-- SUB A,H (R242). -/
def execSubAH (s : State) : Result := aluReg .sub .h s

/-- SUB A,L (R242). -/
def execSubAL (s : State) : Result := aluReg .sub .l s

/-- SUB A,(HL) (R242). -/
def execSubAMemHL (s : State) : Result := aluMem .sub s

/-- SUB A,A (R242). -/
def execSubAA (s : State) : Result := aluReg .sub .a s

/-- SBC A,B (R243). -/
def execSbcAB (s : State) : Result := aluReg .sbc .b s

/-- SBC A,C (R243). -/
def execSbcAC (s : State) : Result := aluReg .sbc .c s

/-- SBC A,D (R243). -/
def execSbcAD (s : State) : Result := aluReg .sbc .d s

/-- SBC A,E (R243). -/
def execSbcAE (s : State) : Result := aluReg .sbc .e s

/-- SBC A,H (R243). -/
def execSbcAH (s : State) : Result := aluReg .sbc .h s

/-- SBC A,L (R243). -/
def execSbcAL (s : State) : Result := aluReg .sbc .l s

/-- SBC A,(HL) (R243). -/
def execSbcAMemHL (s : State) : Result := aluMem .sbc s

/-- SBC A,A (R243). -/
def execSbcAA (s : State) : Result := aluReg .sbc .a s

/-- AND A,B (R244). -/
def execAndAB (s : State) : Result := aluReg .and .b s

/-- AND A,C (R244). -/
def execAndAC (s : State) : Result := aluReg .and .c s

/-- AND A,D (R244). -/
def execAndAD (s : State) : Result := aluReg .and .d s

/-- AND A,E (R244). -/
def execAndAE (s : State) : Result := aluReg .and .e s

/-- AND A,H (R244). -/
def execAndAH (s : State) : Result := aluReg .and .h s

/-- AND A,L (R244). -/
def execAndAL (s : State) : Result := aluReg .and .l s

/-- AND A,(HL) (R244). -/
def execAndAMemHL (s : State) : Result := aluMem .and s

/-- AND A,A (R244). -/
def execAndAA (s : State) : Result := aluReg .and .a s

/-- XOR A,B (R245). -/
def execXorAB (s : State) : Result := aluReg .xor .b s

/-- XOR A,C (R245). -/
def execXorAC (s : State) : Result := aluReg .xor .c s

/-- XOR A,D (R245). -/
def execXorAD (s : State) : Result := aluReg .xor .d s

/-- XOR A,E (R245). -/
def execXorAE (s : State) : Result := aluReg .xor .e s

/-- XOR A,H (R245). -/
def execXorAH (s : State) : Result := aluReg .xor .h s

/-- XOR A,L (R245). -/
def execXorAL (s : State) : Result := aluReg .xor .l s

/-- XOR A,(HL) (R245). -/
def execXorAMemHL (s : State) : Result := aluMem .xor s

/-- XOR A,A (R245). -/
def execXorAA (s : State) : Result := aluReg .xor .a s

/-- OR A,B (R246). -/
def execOrAB (s : State) : Result := aluReg .or .b s

/-- OR A,C (R246). -/
def execOrAC (s : State) : Result := aluReg .or .c s

/-- OR A,D (R246). -/
def execOrAD (s : State) : Result := aluReg .or .d s

/-- OR A,E (R246). -/
def execOrAE (s : State) : Result := aluReg .or .e s

/-- OR A,H (R246). -/
def execOrAH (s : State) : Result := aluReg .or .h s

/-- OR A,L (R246). -/
def execOrAL (s : State) : Result := aluReg .or .l s

/-- OR A,(HL) (R246). -/
def execOrAMemHL (s : State) : Result := aluMem .or s

/-- OR A,A (R246). -/
def execOrAA (s : State) : Result := aluReg .or .a s

/-- CP A,B (R247). -/
def execCpAB (s : State) : Result := aluReg .cp .b s

/-- CP A,C (R247). -/
def execCpAC (s : State) : Result := aluReg .cp .c s

/-- CP A,D (R247). -/
def execCpAD (s : State) : Result := aluReg .cp .d s

/-- CP A,E (R247). -/
def execCpAE (s : State) : Result := aluReg .cp .e s

/-- CP A,H (R247). -/
def execCpAH (s : State) : Result := aluReg .cp .h s

/-- CP A,L (R247). -/
def execCpAL (s : State) : Result := aluReg .cp .l s

/-- CP A,(HL) (R247). -/
def execCpAMemHL (s : State) : Result := aluMem .cp s

/-- CP A,A (R247). -/
def execCpAA (s : State) : Result := aluReg .cp .a s

/-- ADD A,d8 (R240). -/
def execAddAd8 (n : Byte) (s : State) : Result := aluImm .add n s

/-- ADC A,d8 (R241). -/
def execAdcAd8 (n : Byte) (s : State) : Result := aluImm .adc n s

/-- SUB A,d8 (R242). -/
def execSubAd8 (n : Byte) (s : State) : Result := aluImm .sub n s

/-- SBC A,d8 (R243). -/
def execSbcAd8 (n : Byte) (s : State) : Result := aluImm .sbc n s

/-- AND A,d8 (R244). -/
def execAndAd8 (n : Byte) (s : State) : Result := aluImm .and n s

/-- XOR A,d8 (R245). -/
def execXorAd8 (n : Byte) (s : State) : Result := aluImm .xor n s

/-- OR A,d8 (R246). -/
def execOrAd8 (n : Byte) (s : State) : Result := aluImm .or n s

/-- CP A,d8 (R247). -/
def execCpAd8 (n : Byte) (s : State) : Result := aluImm .cp n s

end Sys2Proof.Machine
end

