-- ==== Sys2Proof/Machine/Rotate.lean ====
section
/-!
DEFINITION. Rotates and shifts (43_rotate_bit.md R290-R302): the accumulator forms and the CB group's x = 0, the shared
operations first, then one meaning per instruction.
-/

namespace Sys2Proof.Machine

/-- R290-R293: the accumulator rotates. -/
def rotAcc (op : RotOp) (s : State) : Result :=
  let s1 := s.fetched 1
  let o := rotAccOut op (s1.reg .a) s1.flags.c
  finish 4 ((s1.setReg .a o.result).setFlags o.flags)

/-- R294: the cost of a CB operation that writes its operand back. -/
def cbCost (o : Operand8) : Nat :=
  match o with
  | .reg _ => 8
  | .memHL => 16

/-- R294-R302: a CB rotate or shift. -/
def cbRot (op : RotOp) (o : Operand8) (s : State) : Result :=
  let s1 := s.fetched 2
  let r := rotOut op (readOperand s1 o) s1.flags.c
  finish (cbCost o) ((writeOperand o r.result s1).setFlags r.flags)

/-- RLCA (R290). -/
def execRlca (s : State) : Result := rotAcc .rlc s

/-- RRCA (R291). -/
def execRrca (s : State) : Result := rotAcc .rrc s

/-- RLA (R292). -/
def execRla (s : State) : Result := rotAcc .rl s

/-- RRA (R293). -/
def execRra (s : State) : Result := rotAcc .rr s

/-- RLC B (R295). -/
def execRlcB (s : State) : Result := cbRot .rlc (.reg .b) s

/-- RLC C (R295). -/
def execRlcC (s : State) : Result := cbRot .rlc (.reg .c) s

/-- RLC D (R295). -/
def execRlcD (s : State) : Result := cbRot .rlc (.reg .d) s

/-- RLC E (R295). -/
def execRlcE (s : State) : Result := cbRot .rlc (.reg .e) s

/-- RLC H (R295). -/
def execRlcH (s : State) : Result := cbRot .rlc (.reg .h) s

/-- RLC L (R295). -/
def execRlcL (s : State) : Result := cbRot .rlc (.reg .l) s

/-- RLC (HL) (R295). -/
def execRlcMemHL (s : State) : Result := cbRot .rlc .memHL s

/-- RLC A (R295). -/
def execRlcA (s : State) : Result := cbRot .rlc (.reg .a) s

/-- RRC B (R296). -/
def execRrcB (s : State) : Result := cbRot .rrc (.reg .b) s

/-- RRC C (R296). -/
def execRrcC (s : State) : Result := cbRot .rrc (.reg .c) s

/-- RRC D (R296). -/
def execRrcD (s : State) : Result := cbRot .rrc (.reg .d) s

/-- RRC E (R296). -/
def execRrcE (s : State) : Result := cbRot .rrc (.reg .e) s

/-- RRC H (R296). -/
def execRrcH (s : State) : Result := cbRot .rrc (.reg .h) s

/-- RRC L (R296). -/
def execRrcL (s : State) : Result := cbRot .rrc (.reg .l) s

/-- RRC (HL) (R296). -/
def execRrcMemHL (s : State) : Result := cbRot .rrc .memHL s

/-- RRC A (R296). -/
def execRrcA (s : State) : Result := cbRot .rrc (.reg .a) s

/-- RL B (R297). -/
def execRlB (s : State) : Result := cbRot .rl (.reg .b) s

/-- RL C (R297). -/
def execRlC (s : State) : Result := cbRot .rl (.reg .c) s

/-- RL D (R297). -/
def execRlD (s : State) : Result := cbRot .rl (.reg .d) s

/-- RL E (R297). -/
def execRlE (s : State) : Result := cbRot .rl (.reg .e) s

/-- RL H (R297). -/
def execRlH (s : State) : Result := cbRot .rl (.reg .h) s

/-- RL L (R297). -/
def execRlL (s : State) : Result := cbRot .rl (.reg .l) s

/-- RL (HL) (R297). -/
def execRlMemHL (s : State) : Result := cbRot .rl .memHL s

/-- RL A (R297). -/
def execRlA (s : State) : Result := cbRot .rl (.reg .a) s

/-- RR B (R298). -/
def execRrB (s : State) : Result := cbRot .rr (.reg .b) s

/-- RR C (R298). -/
def execRrC (s : State) : Result := cbRot .rr (.reg .c) s

/-- RR D (R298). -/
def execRrD (s : State) : Result := cbRot .rr (.reg .d) s

/-- RR E (R298). -/
def execRrE (s : State) : Result := cbRot .rr (.reg .e) s

/-- RR H (R298). -/
def execRrH (s : State) : Result := cbRot .rr (.reg .h) s

/-- RR L (R298). -/
def execRrL (s : State) : Result := cbRot .rr (.reg .l) s

/-- RR (HL) (R298). -/
def execRrMemHL (s : State) : Result := cbRot .rr .memHL s

/-- RR A (R298). -/
def execRrA (s : State) : Result := cbRot .rr (.reg .a) s

/-- SLA B (R299). -/
def execSlaB (s : State) : Result := cbRot .sla (.reg .b) s

/-- SLA C (R299). -/
def execSlaC (s : State) : Result := cbRot .sla (.reg .c) s

/-- SLA D (R299). -/
def execSlaD (s : State) : Result := cbRot .sla (.reg .d) s

/-- SLA E (R299). -/
def execSlaE (s : State) : Result := cbRot .sla (.reg .e) s

/-- SLA H (R299). -/
def execSlaH (s : State) : Result := cbRot .sla (.reg .h) s

/-- SLA L (R299). -/
def execSlaL (s : State) : Result := cbRot .sla (.reg .l) s

/-- SLA (HL) (R299). -/
def execSlaMemHL (s : State) : Result := cbRot .sla .memHL s

/-- SLA A (R299). -/
def execSlaA (s : State) : Result := cbRot .sla (.reg .a) s

/-- SRA B (R300). -/
def execSraB (s : State) : Result := cbRot .sra (.reg .b) s

/-- SRA C (R300). -/
def execSraC (s : State) : Result := cbRot .sra (.reg .c) s

/-- SRA D (R300). -/
def execSraD (s : State) : Result := cbRot .sra (.reg .d) s

/-- SRA E (R300). -/
def execSraE (s : State) : Result := cbRot .sra (.reg .e) s

/-- SRA H (R300). -/
def execSraH (s : State) : Result := cbRot .sra (.reg .h) s

/-- SRA L (R300). -/
def execSraL (s : State) : Result := cbRot .sra (.reg .l) s

/-- SRA (HL) (R300). -/
def execSraMemHL (s : State) : Result := cbRot .sra .memHL s

/-- SRA A (R300). -/
def execSraA (s : State) : Result := cbRot .sra (.reg .a) s

/-- SWAP B (R302). -/
def execSwapB (s : State) : Result := cbRot .swap (.reg .b) s

/-- SWAP C (R302). -/
def execSwapC (s : State) : Result := cbRot .swap (.reg .c) s

/-- SWAP D (R302). -/
def execSwapD (s : State) : Result := cbRot .swap (.reg .d) s

/-- SWAP E (R302). -/
def execSwapE (s : State) : Result := cbRot .swap (.reg .e) s

/-- SWAP H (R302). -/
def execSwapH (s : State) : Result := cbRot .swap (.reg .h) s

/-- SWAP L (R302). -/
def execSwapL (s : State) : Result := cbRot .swap (.reg .l) s

/-- SWAP (HL) (R302). -/
def execSwapMemHL (s : State) : Result := cbRot .swap .memHL s

/-- SWAP A (R302). -/
def execSwapA (s : State) : Result := cbRot .swap (.reg .a) s

/-- SRL B (R301). -/
def execSrlB (s : State) : Result := cbRot .srl (.reg .b) s

/-- SRL C (R301). -/
def execSrlC (s : State) : Result := cbRot .srl (.reg .c) s

/-- SRL D (R301). -/
def execSrlD (s : State) : Result := cbRot .srl (.reg .d) s

/-- SRL E (R301). -/
def execSrlE (s : State) : Result := cbRot .srl (.reg .e) s

/-- SRL H (R301). -/
def execSrlH (s : State) : Result := cbRot .srl (.reg .h) s

/-- SRL L (R301). -/
def execSrlL (s : State) : Result := cbRot .srl (.reg .l) s

/-- SRL (HL) (R301). -/
def execSrlMemHL (s : State) : Result := cbRot .srl .memHL s

/-- SRL A (R301). -/
def execSrlA (s : State) : Result := cbRot .srl (.reg .a) s

end Sys2Proof.Machine
end

