-- ==== Sys2Proof/Machine/BitOps.lean ====
section
/-!
DEFINITION. The CB bit operations (43_rotate_bit.md R303-R305): the shared operations, then one meaning per
instruction.
-/

namespace Sys2Proof.Machine

/-- R294: the cost of BIT, which writes nothing back. -/
def bitCost (o : Operand8) : Nat :=
  match o with
  | .reg _ => 8
  | .memHL => 12

/-- R303. -/
def cbBit (n : BitVec 3) (o : Operand8) (s : State) : Result :=
  let s1 := s.fetched 2
  finish (bitCost o) (s1.setFlags (bitTestFlags n (readOperand s1 o) s1.flags))

/-- R304. -/
def cbRes (n : BitVec 3) (o : Operand8) (s : State) : Result :=
  let s1 := s.fetched 2
  finish (cbCost o) (writeOperand o (resBit n (readOperand s1 o)) s1)

/-- R305. -/
def cbSet (n : BitVec 3) (o : Operand8) (s : State) : Result :=
  let s1 := s.fetched 2
  finish (cbCost o) (writeOperand o (setBit n (readOperand s1 o)) s1)

/-- BIT 0,B (R303). -/
def execBit0B (s : State) : Result := cbBit 0 (.reg .b) s

/-- BIT 0,C (R303). -/
def execBit0C (s : State) : Result := cbBit 0 (.reg .c) s

/-- BIT 0,D (R303). -/
def execBit0D (s : State) : Result := cbBit 0 (.reg .d) s

/-- BIT 0,E (R303). -/
def execBit0E (s : State) : Result := cbBit 0 (.reg .e) s

/-- BIT 0,H (R303). -/
def execBit0H (s : State) : Result := cbBit 0 (.reg .h) s

/-- BIT 0,L (R303). -/
def execBit0L (s : State) : Result := cbBit 0 (.reg .l) s

/-- BIT 0,(HL) (R303). -/
def execBit0MemHL (s : State) : Result := cbBit 0 .memHL s

/-- BIT 0,A (R303). -/
def execBit0A (s : State) : Result := cbBit 0 (.reg .a) s

/-- BIT 1,B (R303). -/
def execBit1B (s : State) : Result := cbBit 1 (.reg .b) s

/-- BIT 1,C (R303). -/
def execBit1C (s : State) : Result := cbBit 1 (.reg .c) s

/-- BIT 1,D (R303). -/
def execBit1D (s : State) : Result := cbBit 1 (.reg .d) s

/-- BIT 1,E (R303). -/
def execBit1E (s : State) : Result := cbBit 1 (.reg .e) s

/-- BIT 1,H (R303). -/
def execBit1H (s : State) : Result := cbBit 1 (.reg .h) s

/-- BIT 1,L (R303). -/
def execBit1L (s : State) : Result := cbBit 1 (.reg .l) s

/-- BIT 1,(HL) (R303). -/
def execBit1MemHL (s : State) : Result := cbBit 1 .memHL s

/-- BIT 1,A (R303). -/
def execBit1A (s : State) : Result := cbBit 1 (.reg .a) s

/-- BIT 2,B (R303). -/
def execBit2B (s : State) : Result := cbBit 2 (.reg .b) s

/-- BIT 2,C (R303). -/
def execBit2C (s : State) : Result := cbBit 2 (.reg .c) s

/-- BIT 2,D (R303). -/
def execBit2D (s : State) : Result := cbBit 2 (.reg .d) s

/-- BIT 2,E (R303). -/
def execBit2E (s : State) : Result := cbBit 2 (.reg .e) s

/-- BIT 2,H (R303). -/
def execBit2H (s : State) : Result := cbBit 2 (.reg .h) s

/-- BIT 2,L (R303). -/
def execBit2L (s : State) : Result := cbBit 2 (.reg .l) s

/-- BIT 2,(HL) (R303). -/
def execBit2MemHL (s : State) : Result := cbBit 2 .memHL s

/-- BIT 2,A (R303). -/
def execBit2A (s : State) : Result := cbBit 2 (.reg .a) s

/-- BIT 3,B (R303). -/
def execBit3B (s : State) : Result := cbBit 3 (.reg .b) s

/-- BIT 3,C (R303). -/
def execBit3C (s : State) : Result := cbBit 3 (.reg .c) s

/-- BIT 3,D (R303). -/
def execBit3D (s : State) : Result := cbBit 3 (.reg .d) s

/-- BIT 3,E (R303). -/
def execBit3E (s : State) : Result := cbBit 3 (.reg .e) s

/-- BIT 3,H (R303). -/
def execBit3H (s : State) : Result := cbBit 3 (.reg .h) s

/-- BIT 3,L (R303). -/
def execBit3L (s : State) : Result := cbBit 3 (.reg .l) s

/-- BIT 3,(HL) (R303). -/
def execBit3MemHL (s : State) : Result := cbBit 3 .memHL s

/-- BIT 3,A (R303). -/
def execBit3A (s : State) : Result := cbBit 3 (.reg .a) s

/-- BIT 4,B (R303). -/
def execBit4B (s : State) : Result := cbBit 4 (.reg .b) s

/-- BIT 4,C (R303). -/
def execBit4C (s : State) : Result := cbBit 4 (.reg .c) s

/-- BIT 4,D (R303). -/
def execBit4D (s : State) : Result := cbBit 4 (.reg .d) s

/-- BIT 4,E (R303). -/
def execBit4E (s : State) : Result := cbBit 4 (.reg .e) s

/-- BIT 4,H (R303). -/
def execBit4H (s : State) : Result := cbBit 4 (.reg .h) s

/-- BIT 4,L (R303). -/
def execBit4L (s : State) : Result := cbBit 4 (.reg .l) s

/-- BIT 4,(HL) (R303). -/
def execBit4MemHL (s : State) : Result := cbBit 4 .memHL s

/-- BIT 4,A (R303). -/
def execBit4A (s : State) : Result := cbBit 4 (.reg .a) s

/-- BIT 5,B (R303). -/
def execBit5B (s : State) : Result := cbBit 5 (.reg .b) s

/-- BIT 5,C (R303). -/
def execBit5C (s : State) : Result := cbBit 5 (.reg .c) s

/-- BIT 5,D (R303). -/
def execBit5D (s : State) : Result := cbBit 5 (.reg .d) s

/-- BIT 5,E (R303). -/
def execBit5E (s : State) : Result := cbBit 5 (.reg .e) s

/-- BIT 5,H (R303). -/
def execBit5H (s : State) : Result := cbBit 5 (.reg .h) s

/-- BIT 5,L (R303). -/
def execBit5L (s : State) : Result := cbBit 5 (.reg .l) s

/-- BIT 5,(HL) (R303). -/
def execBit5MemHL (s : State) : Result := cbBit 5 .memHL s

/-- BIT 5,A (R303). -/
def execBit5A (s : State) : Result := cbBit 5 (.reg .a) s

/-- BIT 6,B (R303). -/
def execBit6B (s : State) : Result := cbBit 6 (.reg .b) s

/-- BIT 6,C (R303). -/
def execBit6C (s : State) : Result := cbBit 6 (.reg .c) s

/-- BIT 6,D (R303). -/
def execBit6D (s : State) : Result := cbBit 6 (.reg .d) s

/-- BIT 6,E (R303). -/
def execBit6E (s : State) : Result := cbBit 6 (.reg .e) s

/-- BIT 6,H (R303). -/
def execBit6H (s : State) : Result := cbBit 6 (.reg .h) s

/-- BIT 6,L (R303). -/
def execBit6L (s : State) : Result := cbBit 6 (.reg .l) s

/-- BIT 6,(HL) (R303). -/
def execBit6MemHL (s : State) : Result := cbBit 6 .memHL s

/-- BIT 6,A (R303). -/
def execBit6A (s : State) : Result := cbBit 6 (.reg .a) s

/-- BIT 7,B (R303). -/
def execBit7B (s : State) : Result := cbBit 7 (.reg .b) s

/-- BIT 7,C (R303). -/
def execBit7C (s : State) : Result := cbBit 7 (.reg .c) s

/-- BIT 7,D (R303). -/
def execBit7D (s : State) : Result := cbBit 7 (.reg .d) s

/-- BIT 7,E (R303). -/
def execBit7E (s : State) : Result := cbBit 7 (.reg .e) s

/-- BIT 7,H (R303). -/
def execBit7H (s : State) : Result := cbBit 7 (.reg .h) s

/-- BIT 7,L (R303). -/
def execBit7L (s : State) : Result := cbBit 7 (.reg .l) s

/-- BIT 7,(HL) (R303). -/
def execBit7MemHL (s : State) : Result := cbBit 7 .memHL s

/-- BIT 7,A (R303). -/
def execBit7A (s : State) : Result := cbBit 7 (.reg .a) s

/-- RES 0,B (R304). -/
def execRes0B (s : State) : Result := cbRes 0 (.reg .b) s

/-- RES 0,C (R304). -/
def execRes0C (s : State) : Result := cbRes 0 (.reg .c) s

/-- RES 0,D (R304). -/
def execRes0D (s : State) : Result := cbRes 0 (.reg .d) s

/-- RES 0,E (R304). -/
def execRes0E (s : State) : Result := cbRes 0 (.reg .e) s

/-- RES 0,H (R304). -/
def execRes0H (s : State) : Result := cbRes 0 (.reg .h) s

/-- RES 0,L (R304). -/
def execRes0L (s : State) : Result := cbRes 0 (.reg .l) s

/-- RES 0,(HL) (R304). -/
def execRes0MemHL (s : State) : Result := cbRes 0 .memHL s

/-- RES 0,A (R304). -/
def execRes0A (s : State) : Result := cbRes 0 (.reg .a) s

/-- RES 1,B (R304). -/
def execRes1B (s : State) : Result := cbRes 1 (.reg .b) s

/-- RES 1,C (R304). -/
def execRes1C (s : State) : Result := cbRes 1 (.reg .c) s

/-- RES 1,D (R304). -/
def execRes1D (s : State) : Result := cbRes 1 (.reg .d) s

/-- RES 1,E (R304). -/
def execRes1E (s : State) : Result := cbRes 1 (.reg .e) s

/-- RES 1,H (R304). -/
def execRes1H (s : State) : Result := cbRes 1 (.reg .h) s

/-- RES 1,L (R304). -/
def execRes1L (s : State) : Result := cbRes 1 (.reg .l) s

/-- RES 1,(HL) (R304). -/
def execRes1MemHL (s : State) : Result := cbRes 1 .memHL s

/-- RES 1,A (R304). -/
def execRes1A (s : State) : Result := cbRes 1 (.reg .a) s

/-- RES 2,B (R304). -/
def execRes2B (s : State) : Result := cbRes 2 (.reg .b) s

/-- RES 2,C (R304). -/
def execRes2C (s : State) : Result := cbRes 2 (.reg .c) s

/-- RES 2,D (R304). -/
def execRes2D (s : State) : Result := cbRes 2 (.reg .d) s

/-- RES 2,E (R304). -/
def execRes2E (s : State) : Result := cbRes 2 (.reg .e) s

/-- RES 2,H (R304). -/
def execRes2H (s : State) : Result := cbRes 2 (.reg .h) s

/-- RES 2,L (R304). -/
def execRes2L (s : State) : Result := cbRes 2 (.reg .l) s

/-- RES 2,(HL) (R304). -/
def execRes2MemHL (s : State) : Result := cbRes 2 .memHL s

/-- RES 2,A (R304). -/
def execRes2A (s : State) : Result := cbRes 2 (.reg .a) s

/-- RES 3,B (R304). -/
def execRes3B (s : State) : Result := cbRes 3 (.reg .b) s

/-- RES 3,C (R304). -/
def execRes3C (s : State) : Result := cbRes 3 (.reg .c) s

/-- RES 3,D (R304). -/
def execRes3D (s : State) : Result := cbRes 3 (.reg .d) s

/-- RES 3,E (R304). -/
def execRes3E (s : State) : Result := cbRes 3 (.reg .e) s

/-- RES 3,H (R304). -/
def execRes3H (s : State) : Result := cbRes 3 (.reg .h) s

/-- RES 3,L (R304). -/
def execRes3L (s : State) : Result := cbRes 3 (.reg .l) s

/-- RES 3,(HL) (R304). -/
def execRes3MemHL (s : State) : Result := cbRes 3 .memHL s

/-- RES 3,A (R304). -/
def execRes3A (s : State) : Result := cbRes 3 (.reg .a) s

/-- RES 4,B (R304). -/
def execRes4B (s : State) : Result := cbRes 4 (.reg .b) s

/-- RES 4,C (R304). -/
def execRes4C (s : State) : Result := cbRes 4 (.reg .c) s

/-- RES 4,D (R304). -/
def execRes4D (s : State) : Result := cbRes 4 (.reg .d) s

/-- RES 4,E (R304). -/
def execRes4E (s : State) : Result := cbRes 4 (.reg .e) s

/-- RES 4,H (R304). -/
def execRes4H (s : State) : Result := cbRes 4 (.reg .h) s

/-- RES 4,L (R304). -/
def execRes4L (s : State) : Result := cbRes 4 (.reg .l) s

/-- RES 4,(HL) (R304). -/
def execRes4MemHL (s : State) : Result := cbRes 4 .memHL s

/-- RES 4,A (R304). -/
def execRes4A (s : State) : Result := cbRes 4 (.reg .a) s

/-- RES 5,B (R304). -/
def execRes5B (s : State) : Result := cbRes 5 (.reg .b) s

/-- RES 5,C (R304). -/
def execRes5C (s : State) : Result := cbRes 5 (.reg .c) s

/-- RES 5,D (R304). -/
def execRes5D (s : State) : Result := cbRes 5 (.reg .d) s

/-- RES 5,E (R304). -/
def execRes5E (s : State) : Result := cbRes 5 (.reg .e) s

/-- RES 5,H (R304). -/
def execRes5H (s : State) : Result := cbRes 5 (.reg .h) s

/-- RES 5,L (R304). -/
def execRes5L (s : State) : Result := cbRes 5 (.reg .l) s

/-- RES 5,(HL) (R304). -/
def execRes5MemHL (s : State) : Result := cbRes 5 .memHL s

/-- RES 5,A (R304). -/
def execRes5A (s : State) : Result := cbRes 5 (.reg .a) s

/-- RES 6,B (R304). -/
def execRes6B (s : State) : Result := cbRes 6 (.reg .b) s

/-- RES 6,C (R304). -/
def execRes6C (s : State) : Result := cbRes 6 (.reg .c) s

/-- RES 6,D (R304). -/
def execRes6D (s : State) : Result := cbRes 6 (.reg .d) s

/-- RES 6,E (R304). -/
def execRes6E (s : State) : Result := cbRes 6 (.reg .e) s

/-- RES 6,H (R304). -/
def execRes6H (s : State) : Result := cbRes 6 (.reg .h) s

/-- RES 6,L (R304). -/
def execRes6L (s : State) : Result := cbRes 6 (.reg .l) s

/-- RES 6,(HL) (R304). -/
def execRes6MemHL (s : State) : Result := cbRes 6 .memHL s

/-- RES 6,A (R304). -/
def execRes6A (s : State) : Result := cbRes 6 (.reg .a) s

/-- RES 7,B (R304). -/
def execRes7B (s : State) : Result := cbRes 7 (.reg .b) s

/-- RES 7,C (R304). -/
def execRes7C (s : State) : Result := cbRes 7 (.reg .c) s

/-- RES 7,D (R304). -/
def execRes7D (s : State) : Result := cbRes 7 (.reg .d) s

/-- RES 7,E (R304). -/
def execRes7E (s : State) : Result := cbRes 7 (.reg .e) s

/-- RES 7,H (R304). -/
def execRes7H (s : State) : Result := cbRes 7 (.reg .h) s

/-- RES 7,L (R304). -/
def execRes7L (s : State) : Result := cbRes 7 (.reg .l) s

/-- RES 7,(HL) (R304). -/
def execRes7MemHL (s : State) : Result := cbRes 7 .memHL s

/-- RES 7,A (R304). -/
def execRes7A (s : State) : Result := cbRes 7 (.reg .a) s

/-- SET 0,B (R305). -/
def execSet0B (s : State) : Result := cbSet 0 (.reg .b) s

/-- SET 0,C (R305). -/
def execSet0C (s : State) : Result := cbSet 0 (.reg .c) s

/-- SET 0,D (R305). -/
def execSet0D (s : State) : Result := cbSet 0 (.reg .d) s

/-- SET 0,E (R305). -/
def execSet0E (s : State) : Result := cbSet 0 (.reg .e) s

/-- SET 0,H (R305). -/
def execSet0H (s : State) : Result := cbSet 0 (.reg .h) s

/-- SET 0,L (R305). -/
def execSet0L (s : State) : Result := cbSet 0 (.reg .l) s

/-- SET 0,(HL) (R305). -/
def execSet0MemHL (s : State) : Result := cbSet 0 .memHL s

/-- SET 0,A (R305). -/
def execSet0A (s : State) : Result := cbSet 0 (.reg .a) s

/-- SET 1,B (R305). -/
def execSet1B (s : State) : Result := cbSet 1 (.reg .b) s

/-- SET 1,C (R305). -/
def execSet1C (s : State) : Result := cbSet 1 (.reg .c) s

/-- SET 1,D (R305). -/
def execSet1D (s : State) : Result := cbSet 1 (.reg .d) s

/-- SET 1,E (R305). -/
def execSet1E (s : State) : Result := cbSet 1 (.reg .e) s

/-- SET 1,H (R305). -/
def execSet1H (s : State) : Result := cbSet 1 (.reg .h) s

/-- SET 1,L (R305). -/
def execSet1L (s : State) : Result := cbSet 1 (.reg .l) s

/-- SET 1,(HL) (R305). -/
def execSet1MemHL (s : State) : Result := cbSet 1 .memHL s

/-- SET 1,A (R305). -/
def execSet1A (s : State) : Result := cbSet 1 (.reg .a) s

/-- SET 2,B (R305). -/
def execSet2B (s : State) : Result := cbSet 2 (.reg .b) s

/-- SET 2,C (R305). -/
def execSet2C (s : State) : Result := cbSet 2 (.reg .c) s

/-- SET 2,D (R305). -/
def execSet2D (s : State) : Result := cbSet 2 (.reg .d) s

/-- SET 2,E (R305). -/
def execSet2E (s : State) : Result := cbSet 2 (.reg .e) s

/-- SET 2,H (R305). -/
def execSet2H (s : State) : Result := cbSet 2 (.reg .h) s

/-- SET 2,L (R305). -/
def execSet2L (s : State) : Result := cbSet 2 (.reg .l) s

/-- SET 2,(HL) (R305). -/
def execSet2MemHL (s : State) : Result := cbSet 2 .memHL s

/-- SET 2,A (R305). -/
def execSet2A (s : State) : Result := cbSet 2 (.reg .a) s

/-- SET 3,B (R305). -/
def execSet3B (s : State) : Result := cbSet 3 (.reg .b) s

/-- SET 3,C (R305). -/
def execSet3C (s : State) : Result := cbSet 3 (.reg .c) s

/-- SET 3,D (R305). -/
def execSet3D (s : State) : Result := cbSet 3 (.reg .d) s

/-- SET 3,E (R305). -/
def execSet3E (s : State) : Result := cbSet 3 (.reg .e) s

/-- SET 3,H (R305). -/
def execSet3H (s : State) : Result := cbSet 3 (.reg .h) s

/-- SET 3,L (R305). -/
def execSet3L (s : State) : Result := cbSet 3 (.reg .l) s

/-- SET 3,(HL) (R305). -/
def execSet3MemHL (s : State) : Result := cbSet 3 .memHL s

/-- SET 3,A (R305). -/
def execSet3A (s : State) : Result := cbSet 3 (.reg .a) s

/-- SET 4,B (R305). -/
def execSet4B (s : State) : Result := cbSet 4 (.reg .b) s

/-- SET 4,C (R305). -/
def execSet4C (s : State) : Result := cbSet 4 (.reg .c) s

/-- SET 4,D (R305). -/
def execSet4D (s : State) : Result := cbSet 4 (.reg .d) s

/-- SET 4,E (R305). -/
def execSet4E (s : State) : Result := cbSet 4 (.reg .e) s

/-- SET 4,H (R305). -/
def execSet4H (s : State) : Result := cbSet 4 (.reg .h) s

/-- SET 4,L (R305). -/
def execSet4L (s : State) : Result := cbSet 4 (.reg .l) s

/-- SET 4,(HL) (R305). -/
def execSet4MemHL (s : State) : Result := cbSet 4 .memHL s

/-- SET 4,A (R305). -/
def execSet4A (s : State) : Result := cbSet 4 (.reg .a) s

/-- SET 5,B (R305). -/
def execSet5B (s : State) : Result := cbSet 5 (.reg .b) s

/-- SET 5,C (R305). -/
def execSet5C (s : State) : Result := cbSet 5 (.reg .c) s

/-- SET 5,D (R305). -/
def execSet5D (s : State) : Result := cbSet 5 (.reg .d) s

/-- SET 5,E (R305). -/
def execSet5E (s : State) : Result := cbSet 5 (.reg .e) s

/-- SET 5,H (R305). -/
def execSet5H (s : State) : Result := cbSet 5 (.reg .h) s

/-- SET 5,L (R305). -/
def execSet5L (s : State) : Result := cbSet 5 (.reg .l) s

/-- SET 5,(HL) (R305). -/
def execSet5MemHL (s : State) : Result := cbSet 5 .memHL s

/-- SET 5,A (R305). -/
def execSet5A (s : State) : Result := cbSet 5 (.reg .a) s

/-- SET 6,B (R305). -/
def execSet6B (s : State) : Result := cbSet 6 (.reg .b) s

/-- SET 6,C (R305). -/
def execSet6C (s : State) : Result := cbSet 6 (.reg .c) s

/-- SET 6,D (R305). -/
def execSet6D (s : State) : Result := cbSet 6 (.reg .d) s

/-- SET 6,E (R305). -/
def execSet6E (s : State) : Result := cbSet 6 (.reg .e) s

/-- SET 6,H (R305). -/
def execSet6H (s : State) : Result := cbSet 6 (.reg .h) s

/-- SET 6,L (R305). -/
def execSet6L (s : State) : Result := cbSet 6 (.reg .l) s

/-- SET 6,(HL) (R305). -/
def execSet6MemHL (s : State) : Result := cbSet 6 .memHL s

/-- SET 6,A (R305). -/
def execSet6A (s : State) : Result := cbSet 6 (.reg .a) s

/-- SET 7,B (R305). -/
def execSet7B (s : State) : Result := cbSet 7 (.reg .b) s

/-- SET 7,C (R305). -/
def execSet7C (s : State) : Result := cbSet 7 (.reg .c) s

/-- SET 7,D (R305). -/
def execSet7D (s : State) : Result := cbSet 7 (.reg .d) s

/-- SET 7,E (R305). -/
def execSet7E (s : State) : Result := cbSet 7 (.reg .e) s

/-- SET 7,H (R305). -/
def execSet7H (s : State) : Result := cbSet 7 (.reg .h) s

/-- SET 7,L (R305). -/
def execSet7L (s : State) : Result := cbSet 7 (.reg .l) s

/-- SET 7,(HL) (R305). -/
def execSet7MemHL (s : State) : Result := cbSet 7 .memHL s

/-- SET 7,A (R305). -/
def execSet7A (s : State) : Result := cbSet 7 (.reg .a) s

end Sys2Proof.Machine
end

