-- ==== Sys2Proof/Machine/Control.lean ====
section
/-!
DEFINITION. Control transfer (44_control.md R319-R331): the shared operations, then one meaning per instruction. PC is
past the instruction when a target or a return address is computed. No flag is written.
-/

namespace Sys2Proof.Machine

/-- R320. -/
def jumpAbs (w : Word) (s : State) : Result :=
  finish 16 ((s.fetched 3).setPc w)

/-- R321. -/
def jumpAbsIf (cc : Cond) (w : Word) (s : State) : Result :=
  let s1 := s.fetched 3
  if condHolds cc s1.flags then finish 16 (s1.setPc w) else finish 12 s1

/-- R322: a register jump, not a memory indirection. -/
def jumpHl (s : State) : Result :=
  let s1 := s.fetched 1
  finish 4 (s1.setPc s1.hl)

/-- R323: relative to the next instruction, modulo 2^16. -/
def jumpRel (e : Byte) (s : State) : Result :=
  let s1 := s.fetched 2
  finish 12 (s1.setPc (s1.regs.pc + sext16 e))

/-- R324. -/
def jumpRelIf (cc : Cond) (e : Byte) (s : State) : Result :=
  let s1 := s.fetched 2
  if condHolds cc s1.flags then finish 12 (s1.setPc (s1.regs.pc + sext16 e)) else finish 8 s1

/-- R325. -/
def callAbs (w : Word) (s : State) : Result :=
  let s1 := s.fetched 3
  finish 24 ((push16 s1.regs.pc s1).setPc w)

/-- R326. -/
def callAbsIf (cc : Cond) (w : Word) (s : State) : Result :=
  let s1 := s.fetched 3
  if condHolds cc s1.flags then finish 24 ((push16 s1.regs.pc s1).setPc w) else finish 12 s1

/-- R327. -/
def ret (s : State) : Result :=
  let s1 := s.fetched 1
  finish 16 ((dropTop s1).setPc (stackTop s1))

/-- R328. -/
def retIf (cc : Cond) (s : State) : Result :=
  let s1 := s.fetched 1
  if condHolds cc s1.flags then finish 20 ((dropTop s1).setPc (stackTop s1)) else finish 8 s1

/-- R329. -/
def reti (s : State) : Result :=
  finish 16 (returnFromInterrupt (s.fetched 1))

/-- R331: the target is `y * 8` (R170). -/
def restart (y : BitVec 3) (s : State) : Result :=
  let s1 := s.fetched 1
  finish 16 ((push16 s1.regs.pc s1).setPc (trunc16 (y.toNat * 8)))

/-- JR e8 (R323). -/
def execJrE8 (e : Byte) (s : State) : Result := jumpRel e s

/-- JR NZ,e8 (R324). -/
def execJrNZe8 (e : Byte) (s : State) : Result := jumpRelIf .nz e s

/-- JR Z,e8 (R324). -/
def execJrZe8 (e : Byte) (s : State) : Result := jumpRelIf .z e s

/-- JR NC,e8 (R324). -/
def execJrNCe8 (e : Byte) (s : State) : Result := jumpRelIf .nc e s

/-- JR C,e8 (R324). -/
def execJrCe8 (e : Byte) (s : State) : Result := jumpRelIf .c e s

/-- RET NZ (R328). -/
def execRetNZ (s : State) : Result := retIf .nz s

/-- JP NZ,a16 (R321). -/
def execJpNZA16 (w : Word) (s : State) : Result := jumpAbsIf .nz w s

/-- JP a16 (R320). -/
def execJpA16 (w : Word) (s : State) : Result := jumpAbs w s

/-- CALL NZ,a16 (R326). -/
def execCallNZA16 (w : Word) (s : State) : Result := callAbsIf .nz w s

/-- RST 0x00 (R331). -/
def execRst00 (s : State) : Result := restart 0 s

/-- RET Z (R328). -/
def execRetZ (s : State) : Result := retIf .z s

/-- RET (R327). -/
def execRet (s : State) : Result := ret s

/-- JP Z,a16 (R321). -/
def execJpZA16 (w : Word) (s : State) : Result := jumpAbsIf .z w s

/-- CALL Z,a16 (R326). -/
def execCallZA16 (w : Word) (s : State) : Result := callAbsIf .z w s

/-- CALL a16 (R325). -/
def execCallA16 (w : Word) (s : State) : Result := callAbs w s

/-- RST 0x08 (R331). -/
def execRst08 (s : State) : Result := restart 1 s

/-- RET NC (R328). -/
def execRetNC (s : State) : Result := retIf .nc s

/-- JP NC,a16 (R321). -/
def execJpNCA16 (w : Word) (s : State) : Result := jumpAbsIf .nc w s

/-- CALL NC,a16 (R326). -/
def execCallNCA16 (w : Word) (s : State) : Result := callAbsIf .nc w s

/-- RST 0x10 (R331). -/
def execRst10 (s : State) : Result := restart 2 s

/-- RET C (R328). -/
def execRetC (s : State) : Result := retIf .c s

/-- RETI (R329). -/
def execReti (s : State) : Result := reti s

/-- JP C,a16 (R321). -/
def execJpCA16 (w : Word) (s : State) : Result := jumpAbsIf .c w s

/-- CALL C,a16 (R326). -/
def execCallCA16 (w : Word) (s : State) : Result := callAbsIf .c w s

/-- RST 0x18 (R331). -/
def execRst18 (s : State) : Result := restart 3 s

/-- RST 0x20 (R331). -/
def execRst20 (s : State) : Result := restart 4 s

/-- JP HL (R322). -/
def execJpHL (s : State) : Result := jumpHl s

/-- RST 0x28 (R331). -/
def execRst28 (s : State) : Result := restart 5 s

/-- RST 0x30 (R331). -/
def execRst30 (s : State) : Result := restart 6 s

/-- RST 0x38 (R331). -/
def execRst38 (s : State) : Result := restart 7 s

end Sys2Proof.Machine
end

