-- ==== Sys2Proof/Machine/Loads.lean ====
section
/-!
DEFINITION. Loads, stores and the stack (40_load.md R200-R225): the shared operations, then one meaning per
instruction. No instruction here changes a flag but POP AF, and none can fault (R94).
-/

namespace Sys2Proof.Machine

/-- R200. -/
def loadReg (dst src : Reg8) (s : State) : Result :=
  let s1 := s.fetched 1
  finish 4 (s1.setReg dst (s1.reg src))

/-- R201. -/
def loadRegImm (dst : Reg8) (n : Byte) (s : State) : Result :=
  finish 8 ((s.fetched 2).setReg dst n)

/-- R202: the address is read before the register is written. -/
def loadRegMem (dst : Reg8) (s : State) : Result :=
  let s1 := s.fetched 1
  finish 8 (s1.setReg dst (readByte s1 s1.hl))

/-- R203. -/
def storeMemReg (src : Reg8) (s : State) : Result :=
  let s1 := s.fetched 1
  finish 8 (writeByte s1 s1.hl (s1.reg src))

/-- R204. -/
def storeMemImm (n : Byte) (s : State) : Result :=
  let s1 := s.fetched 2
  finish 12 (writeByte s1 s1.hl n)

/-- R207. -/
def loadAccAbs (w : Word) (s : State) : Result :=
  let s1 := s.fetched 3
  finish 16 (s1.setReg .a (readByte s1 w))

/-- R208. -/
def storeAccAbs (w : Word) (s : State) : Result :=
  let s1 := s.fetched 3
  finish 16 (writeByte s1 w (s1.reg .a))

/-- R209. -/
def loadAccInd (p : Pair) (s : State) : Result :=
  let s1 := s.fetched 1
  finish 8 (s1.setReg .a (readByte s1 (s1.pair p)))

/-- R210. -/
def storeAccInd (p : Pair) (s : State) : Result :=
  let s1 := s.fetched 1
  finish 8 (writeByte s1 (s1.pair p) (s1.reg .a))

/-- R212. -/
def loadHigh (n : Byte) (s : State) : Result :=
  let s1 := s.fetched 2
  finish 12 (s1.setReg .a (readByte s1 (highPage n)))

/-- R213. -/
def storeHigh (n : Byte) (s : State) : Result :=
  let s1 := s.fetched 2
  finish 12 (writeByte s1 (highPage n) (s1.reg .a))

/-- R214. -/
def loadHighC (s : State) : Result :=
  let s1 := s.fetched 1
  finish 8 (s1.setReg .a (readByte s1 (highPage s1.regs.c)))

/-- R215. -/
def storeHighC (s : State) : Result :=
  let s1 := s.fetched 1
  finish 8 (writeByte s1 (highPage s1.regs.c) (s1.reg .a))

/-- R216, R217: store A at HL, then step HL by `k` (1 or -1), modulo 2^16. -/
def storeAccStep (k : Word) (s : State) : Result :=
  let s1 := s.fetched 1
  let s2 := writeByte s1 s1.hl (s1.reg .a)
  finish 8 (s2.setHl (s2.hl + k))

/-- R218, R219: load A from HL, then step HL by `k` (1 or -1), modulo 2^16. -/
def loadAccStep (k : Word) (s : State) : Result :=
  let s1 := s.fetched 1
  let s2 := s1.setReg .a (readByte s1 s1.hl)
  finish 8 (s2.setHl (s2.hl + k))

/-- R220. -/
def loadPairImm (p : Pair) (w : Word) (s : State) : Result :=
  finish 12 ((s.fetched 3).setPair p w)

/-- R221. -/
def loadSpHl (s : State) : Result :=
  let s1 := s.fetched 1
  finish 8 (s1.setSp s1.hl)

/-- R222: the low byte at the lower address, written first. -/
def storeSpAbs (w : Word) (s : State) : Result :=
  let s1 := s.fetched 3
  let s2 := writeByte s1 w (loByte s1.regs.sp)
  finish 20 (writeByte s2 (w + 1) (hiByte s2.regs.sp))

/-- R223. -/
def pushPair (p : StackPair) (s : State) : Result :=
  let s1 := s.fetched 1
  finish 16 (push16 (s1.stackPair p) s1)

/-- R224, R225. -/
def popPair (p : StackPair) (s : State) : Result :=
  let s1 := s.fetched 1
  finish 12 ((dropTop s1).setStackPair p (stackTop s1))

/-- LD BC,d16 (R220). -/
def execLdBCd16 (w : Word) (s : State) : Result := loadPairImm .bc w s

/-- LD (BC),A (R210). -/
def execLdMemBCA (s : State) : Result := storeAccInd .bc s

/-- LD B,d8 (R201). -/
def execLdBd8 (n : Byte) (s : State) : Result := loadRegImm .b n s

/-- LD (a16),SP (R222). -/
def execLdMemA16SP (w : Word) (s : State) : Result := storeSpAbs w s

/-- LD A,(BC) (R209). -/
def execLdAMemBC (s : State) : Result := loadAccInd .bc s

/-- LD C,d8 (R201). -/
def execLdCd8 (n : Byte) (s : State) : Result := loadRegImm .c n s

/-- LD DE,d16 (R220). -/
def execLdDEd16 (w : Word) (s : State) : Result := loadPairImm .de w s

/-- LD (DE),A (R210). -/
def execLdMemDEA (s : State) : Result := storeAccInd .de s

/-- LD D,d8 (R201). -/
def execLdDd8 (n : Byte) (s : State) : Result := loadRegImm .d n s

/-- LD A,(DE) (R209). -/
def execLdAMemDE (s : State) : Result := loadAccInd .de s

/-- LD E,d8 (R201). -/
def execLdEd8 (n : Byte) (s : State) : Result := loadRegImm .e n s

/-- LD HL,d16 (R220). -/
def execLdHLd16 (w : Word) (s : State) : Result := loadPairImm .hl w s

/-- LD (HL+),A (R216). -/
def execLdMemHLIncA (s : State) : Result := storeAccStep 1 s

/-- LD H,d8 (R201). -/
def execLdHd8 (n : Byte) (s : State) : Result := loadRegImm .h n s

/-- LD A,(HL+) (R218). -/
def execLdAMemHLInc (s : State) : Result := loadAccStep 1 s

/-- LD L,d8 (R201). -/
def execLdLd8 (n : Byte) (s : State) : Result := loadRegImm .l n s

/-- LD SP,d16 (R220). -/
def execLdSPd16 (w : Word) (s : State) : Result := loadPairImm .sp w s

/-- LD (HL-),A (R217). -/
def execLdMemHLDecA (s : State) : Result := storeAccStep (-1) s

/-- LD (HL),d8 (R204). -/
def execLdMemHLd8 (n : Byte) (s : State) : Result := storeMemImm n s

/-- LD A,(HL-) (R219). -/
def execLdAMemHLDec (s : State) : Result := loadAccStep (-1) s

/-- LD A,d8 (R201). -/
def execLdAd8 (n : Byte) (s : State) : Result := loadRegImm .a n s

/-- LD B,B (R200). -/
def execLdBB (s : State) : Result := loadReg .b .b s

/-- LD B,C (R200). -/
def execLdBC (s : State) : Result := loadReg .b .c s

/-- LD B,D (R200). -/
def execLdBD (s : State) : Result := loadReg .b .d s

/-- LD B,E (R200). -/
def execLdBE (s : State) : Result := loadReg .b .e s

/-- LD B,H (R200). -/
def execLdBH (s : State) : Result := loadReg .b .h s

/-- LD B,L (R200). -/
def execLdBL (s : State) : Result := loadReg .b .l s

/-- LD B,(HL) (R202). -/
def execLdBMemHL (s : State) : Result := loadRegMem .b s

/-- LD B,A (R200). -/
def execLdBA (s : State) : Result := loadReg .b .a s

/-- LD C,B (R200). -/
def execLdCB (s : State) : Result := loadReg .c .b s

/-- LD C,C (R200). -/
def execLdCC (s : State) : Result := loadReg .c .c s

/-- LD C,D (R200). -/
def execLdCD (s : State) : Result := loadReg .c .d s

/-- LD C,E (R200). -/
def execLdCE (s : State) : Result := loadReg .c .e s

/-- LD C,H (R200). -/
def execLdCH (s : State) : Result := loadReg .c .h s

/-- LD C,L (R200). -/
def execLdCL (s : State) : Result := loadReg .c .l s

/-- LD C,(HL) (R202). -/
def execLdCMemHL (s : State) : Result := loadRegMem .c s

/-- LD C,A (R200). -/
def execLdCA (s : State) : Result := loadReg .c .a s

/-- LD D,B (R200). -/
def execLdDB (s : State) : Result := loadReg .d .b s

/-- LD D,C (R200). -/
def execLdDC (s : State) : Result := loadReg .d .c s

/-- LD D,D (R200). -/
def execLdDD (s : State) : Result := loadReg .d .d s

/-- LD D,E (R200). -/
def execLdDE (s : State) : Result := loadReg .d .e s

/-- LD D,H (R200). -/
def execLdDH (s : State) : Result := loadReg .d .h s

/-- LD D,L (R200). -/
def execLdDL (s : State) : Result := loadReg .d .l s

/-- LD D,(HL) (R202). -/
def execLdDMemHL (s : State) : Result := loadRegMem .d s

/-- LD D,A (R200). -/
def execLdDA (s : State) : Result := loadReg .d .a s

/-- LD E,B (R200). -/
def execLdEB (s : State) : Result := loadReg .e .b s

/-- LD E,C (R200). -/
def execLdEC (s : State) : Result := loadReg .e .c s

/-- LD E,D (R200). -/
def execLdED (s : State) : Result := loadReg .e .d s

/-- LD E,E (R200). -/
def execLdEE (s : State) : Result := loadReg .e .e s

/-- LD E,H (R200). -/
def execLdEH (s : State) : Result := loadReg .e .h s

/-- LD E,L (R200). -/
def execLdEL (s : State) : Result := loadReg .e .l s

/-- LD E,(HL) (R202). -/
def execLdEMemHL (s : State) : Result := loadRegMem .e s

/-- LD E,A (R200). -/
def execLdEA (s : State) : Result := loadReg .e .a s

/-- LD H,B (R200). -/
def execLdHB (s : State) : Result := loadReg .h .b s

/-- LD H,C (R200). -/
def execLdHC (s : State) : Result := loadReg .h .c s

/-- LD H,D (R200). -/
def execLdHD (s : State) : Result := loadReg .h .d s

/-- LD H,E (R200). -/
def execLdHE (s : State) : Result := loadReg .h .e s

/-- LD H,H (R200). -/
def execLdHH (s : State) : Result := loadReg .h .h s

/-- LD H,L (R200). -/
def execLdHL (s : State) : Result := loadReg .h .l s

/-- LD H,(HL) (R202). -/
def execLdHMemHL (s : State) : Result := loadRegMem .h s

/-- LD H,A (R200). -/
def execLdHA (s : State) : Result := loadReg .h .a s

/-- LD L,B (R200). -/
def execLdLB (s : State) : Result := loadReg .l .b s

/-- LD L,C (R200). -/
def execLdLC (s : State) : Result := loadReg .l .c s

/-- LD L,D (R200). -/
def execLdLD (s : State) : Result := loadReg .l .d s

/-- LD L,E (R200). -/
def execLdLE (s : State) : Result := loadReg .l .e s

/-- LD L,H (R200). -/
def execLdLH (s : State) : Result := loadReg .l .h s

/-- LD L,L (R200). -/
def execLdLL (s : State) : Result := loadReg .l .l s

/-- LD L,(HL) (R202). -/
def execLdLMemHL (s : State) : Result := loadRegMem .l s

/-- LD L,A (R200). -/
def execLdLA (s : State) : Result := loadReg .l .a s

/-- LD (HL),B (R203). -/
def execLdMemHLB (s : State) : Result := storeMemReg .b s

/-- LD (HL),C (R203). -/
def execLdMemHLC (s : State) : Result := storeMemReg .c s

/-- LD (HL),D (R203). -/
def execLdMemHLD (s : State) : Result := storeMemReg .d s

/-- LD (HL),E (R203). -/
def execLdMemHLE (s : State) : Result := storeMemReg .e s

/-- LD (HL),H (R203). -/
def execLdMemHLH (s : State) : Result := storeMemReg .h s

/-- LD (HL),L (R203). -/
def execLdMemHLL (s : State) : Result := storeMemReg .l s

/-- LD (HL),A (R203). -/
def execLdMemHLA (s : State) : Result := storeMemReg .a s

/-- LD A,B (R200). -/
def execLdAB (s : State) : Result := loadReg .a .b s

/-- LD A,C (R200). -/
def execLdAC (s : State) : Result := loadReg .a .c s

/-- LD A,D (R200). -/
def execLdAD (s : State) : Result := loadReg .a .d s

/-- LD A,E (R200). -/
def execLdAE (s : State) : Result := loadReg .a .e s

/-- LD A,H (R200). -/
def execLdAH (s : State) : Result := loadReg .a .h s

/-- LD A,L (R200). -/
def execLdAL (s : State) : Result := loadReg .a .l s

/-- LD A,(HL) (R202). -/
def execLdAMemHL (s : State) : Result := loadRegMem .a s

/-- LD A,A (R200). -/
def execLdAA (s : State) : Result := loadReg .a .a s

/-- POP BC (R224). -/
def execPopBC (s : State) : Result := popPair .bc s

/-- PUSH BC (R223). -/
def execPushBC (s : State) : Result := pushPair .bc s

/-- POP DE (R224). -/
def execPopDE (s : State) : Result := popPair .de s

/-- PUSH DE (R223). -/
def execPushDE (s : State) : Result := pushPair .de s

/-- LDH (a8),A (R213). -/
def execLdhMemA8A (n : Byte) (s : State) : Result := storeHigh n s

/-- POP HL (R224). -/
def execPopHL (s : State) : Result := popPair .hl s

/-- LD (C),A (R215). -/
def execLdMemCA (s : State) : Result := storeHighC s

/-- PUSH HL (R223). -/
def execPushHL (s : State) : Result := pushPair .hl s

/-- LD (a16),A (R208). -/
def execLdMemA16A (w : Word) (s : State) : Result := storeAccAbs w s

/-- LDH A,(a8) (R212). -/
def execLdhAMemA8 (n : Byte) (s : State) : Result := loadHigh n s

/-- POP AF (R225). -/
def execPopAF (s : State) : Result := popPair .af s

/-- LD A,(C) (R214). -/
def execLdAMemC (s : State) : Result := loadHighC s

/-- PUSH AF (R223). -/
def execPushAF (s : State) : Result := pushPair .af s

/-- LD SP,HL (R221). -/
def execLdSPHL (s : State) : Result := loadSpHl s

/-- LD A,(a16) (R207). -/
def execLdAMemA16 (w : Word) (s : State) : Result := loadAccAbs w s

end Sys2Proof.Machine
end

