-- ==== Sys2Proof/Machine/Prefix.lean ====
section
/-!
DEFINITION. The CB prefix (30_encoding.md R162, R171, R177): a second byte, read by its fields, names the operation, the
bit and the operand.
-/

namespace Sys2Proof.Machine

/-- R171: the table `rot[y]`. -/
def rotTable (y : BitVec 3) : RotOp :=
  if y = 0 then .rlc
  else if y = 1 then .rrc
  else if y = 2 then .rl
  else if y = 3 then .rr
  else if y = 4 then .sla
  else if y = 5 then .sra
  else if y = 6 then .swap
  else .srl

/-- R171: the table `alu[y]`. -/
def aluTable (y : BitVec 3) : AluOp :=
  if y = 0 then .add
  else if y = 1 then .adc
  else if y = 2 then .sub
  else if y = 3 then .sbc
  else if y = 4 then .and
  else if y = 5 then .xor
  else if y = 6 then .or
  else .cp

/-- R177: the operation that the byte after the prefix names, by its fields x, y and z (R162). -/
def prefixedOp (c : Byte) (s : State) : Result :=
  let x : BitVec 2 := field c 6 2
  let y : BitVec 3 := field c 3 3
  let z : BitVec 3 := field c 0 3
  if x = 0 then cbRot (rotTable y) (r8Table z) s
  else if x = 1 then cbBit y (r8Table z) s
  else if x = 2 then cbRes y (r8Table z) s
  else cbSet y (r8Table z) s

/-- PREFIX CB (R177). -/
def execPrefixCB (c : Byte) (s : State) : Result := prefixedOp c s

end Sys2Proof.Machine
end

