-- ==== Sys2Proof/Machine/System.lean ====
section
/-!
DEFINITION. System and control instructions (45_system.md R350-R355): the shared operations, then one meaning per
instruction. No flag is written.
-/

namespace Sys2Proof.Machine

/-- R350. -/
def nop (s : State) : Result := finish 4 (s.fetched 1)

/-- R351: under `double_read` a HALT that would wake at once arms the halt-bug latch instead. -/
def haltState (s : State) : State :=
  match s.params.haltBug with
  | .none => s.setHalted true
  | .doubleRead =>
    if !s.ctl.ime && anyEligible s.intr then (s.setHalted false).setHaltBugLatch true else s.setHalted true

/-- R351. -/
def halt (s : State) : Result := finish 4 (haltState (s.fetched 1))

/-- `div16 <- 0` (R352, R445). -/
def clearDiv (s : State) : State := { s with timer := { s.timer with div16 := 0 } }

/-- R352: by `STOP_MODE`. Under `fault` the error is raised before the second byte is fetched; else that byte is
fetched and ignored. -/
def stop (s : State) : Result :=
  match s.params.stopMode with
  | .fault => .next (raiseUnimplemented 0x10 s)
  | .nop2 => finish 4 (s.fetched 2)
  | .haltUntilJoypad => finish 4 (clearDiv ((s.fetched 2).setStopped true))

/-- R353: at once; an EI whose delay has not run out is cancelled. -/
def disableInts (s : State) : Result := finish 4 (((s.fetched 1).setIme false).setEiPending false)

/-- R354: IME is not written here; Machine/Cpu.lean performs the deferred write (R404). -/
def enableInts (s : State) : Result := finish 4 ((s.fetched 1).setEiPending true)

/-- R355: an illegal byte raises the fatal error. -/
def illegal (op : Byte) (s : State) : Result := .next (raiseUnimplemented op s)

/-- NOP (R350). -/
def execNop (s : State) : Result := nop s

/-- STOP (R352). -/
def execStop (_n : Byte) (s : State) : Result := stop s

/-- HALT (R351). -/
def execHalt (s : State) : Result := halt s

/-- ILLEGAL 0xD3 (R355). -/
def execIllegalD3 (s : State) : Result := illegal 0xD3 s

/-- ILLEGAL 0xDB (R355). -/
def execIllegalDB (s : State) : Result := illegal 0xDB s

/-- ILLEGAL 0xDD (R355). -/
def execIllegalDD (s : State) : Result := illegal 0xDD s

/-- ILLEGAL 0xE3 (R355). -/
def execIllegalE3 (s : State) : Result := illegal 0xE3 s

/-- ILLEGAL 0xE4 (R355). -/
def execIllegalE4 (s : State) : Result := illegal 0xE4 s

/-- ILLEGAL 0xEB (R355). -/
def execIllegalEB (s : State) : Result := illegal 0xEB s

/-- ILLEGAL 0xEC (R355). -/
def execIllegalEC (s : State) : Result := illegal 0xEC s

/-- ILLEGAL 0xED (R355). -/
def execIllegalED (s : State) : Result := illegal 0xED s

/-- DI (R353). -/
def execDi (s : State) : Result := disableInts s

/-- ILLEGAL 0xF4 (R355). -/
def execIllegalF4 (s : State) : Result := illegal 0xF4 s

/-- EI (R354). -/
def execEi (s : State) : Result := enableInts s

/-- ILLEGAL 0xFC (R355). -/
def execIllegalFC (s : State) : Result := illegal 0xFC s

/-- ILLEGAL 0xFD (R355). -/
def execIllegalFD (s : State) : Result := illegal 0xFD s

end Sys2Proof.Machine
end

