-- ==== Sys2Proof/Machine/Ppu.lean ====
section
/-!
DEFINITION. The PPU's dot (62_ppu.md R470-R503): the mode machine, STAT requests, LCD off and on, and the scanline
composer. OAM DMA is in Machine/Bus.lean, being a write's side effect.
-/

namespace Sys2Proof.Machine

/-- R471: mode lengths in dots, the frame's lines, and the line and frame sizes (R6). -/
def oamDots : Nat := 80
def transferDots : Nat := 172
def hblankDots : Nat := 204
def vblankDots : Nat := 456
def visibleLines : Nat := 144
def lastLine : Nat := 153
def screenWidth : Nat := 160
def maxSpritesPerLine : Nat := 10
def spriteCount : Nat := 40

/-- LCDC bit (R488). -/
def lcdcBit (s : State) (i : Nat) : Bool := bitOf s.ppu.lcdc i

/-- LCDC[7] (R486). -/
def lcdOn (s : State) : Bool := lcdcBit s 7

/-! ### The composer -/

/-- A byte of VRAM, by console address (R490). -/
def vramByte (s : State) (a : Nat) : Byte := Store.read s.mem a

/-- R490: the address of a tile's first byte. -/
def tileBase (tn : Byte) (unsignedMode : Bool) : Nat :=
  if unsignedMode then 0x8000 + 16 * tn.toNat else ((0x9000 : Int) + 16 * tn.toInt).toNat

/-- R490: the colour index of a tile's pixel. -/
def tileIndex (s : State) (tn : Byte) (row col : Nat) (unsignedMode : Bool) : BitVec 2 :=
  let base := tileBase tn unsignedMode + 2 * row
  BitVec.ofBool (bitOf (vramByte s (base + 1)) (7 - col)) ++ BitVec.ofBool (bitOf (vramByte s base) (7 - col))

/-- R491, R492: the base address of a tile map. -/
def mapBase (high : Bool) : Nat := if high then 0x9C00 else 0x9800

/-- R491, R492: the colour index at a position of a 32 x 32 tile map. -/
def mapIndex (s : State) (high : Bool) (px py : Nat) : BitVec 2 :=
  tileIndex s (vramByte s (mapBase high + 32 * (py / 8) + px / 8)) (py % 8) (px % 8) (lcdcBit s 4)

/-- R491: the background's index for column x of line y. -/
def bgIndex (s : State) (x y : Nat) : BitVec 2 :=
  if lcdcBit s 0 then
    mapIndex s (lcdcBit s 3) ((x + s.ppu.scx.toNat) % 256) ((y + s.ppu.scy.toNat) % 256)
  else 0

/-- R492: the window covers column x of line y. -/
def windowCovers (s : State) (x y : Nat) : Bool :=
  lcdcBit s 0 && lcdcBit s 5 && decide (s.ppu.wy.toNat ≤ y) && decide (s.ppu.wx.toNat ≤ x + 7)

/-- R492: the background or window index for column x of line y. -/
def bgWinIndex (s : State) (x y : Nat) : BitVec 2 :=
  if windowCovers s x y then
    mapIndex s (lcdcBit s 6) (x + 7 - s.ppu.wx.toNat) (y - s.ppu.wy.toNat)
  else bgIndex s x y

/-- R497: palette lookup, `(P >> (2*i)) & 3`. -/
def palette (p : Byte) (i : BitVec 2) : BitVec 2 := p.extractLsb' (2 * i.toNat) 2

/-- R493: an OAM entry. -/
structure Sprite where
  y : Nat
  x : Nat
  tile : Byte
  attr : Byte
  deriving DecidableEq, Repr

/-- R493: sprite i's entry, OAM[4i .. 4i+3]. -/
def spriteAt (s : State) (i : Nat) : Sprite :=
  { y := (Store.read s.mem (oamBase + 4 * i)).toNat
    x := (Store.read s.mem (oamBase + 4 * i + 1)).toNat
    tile := Store.read s.mem (oamBase + 4 * i + 2)
    attr := Store.read s.mem (oamBase + 4 * i + 3) }

/-- R494: sprite height. -/
def spriteHeight (s : State) : Nat := if lcdcBit s 2 then 16 else 8

/-- R494: a sprite intersects line y. -/
def spriteOnLine (h y : Nat) (p : Sprite) : Bool := decide (p.y ≤ y + 16) && decide (y + 16 < p.y + h)

/-- R494: the sprites of line y: the first ten in OAM order that intersect it, whatever their X. -/
def selectSprites (s : State) (y : Nat) : List Sprite :=
  if lcdcBit s 1 then
    (((List.range spriteCount).map (spriteAt s)).filter (spriteOnLine (spriteHeight s) y)).take maxSpritesPerLine
  else []

/-- R495: the colour index of a sprite at column x of line y; 0 outside it (transparent). -/
def spriteIndex (s : State) (x y : Nat) (p : Sprite) : BitVec 2 :=
  if p.x ≤ x + 8 ∧ x + 8 < p.x + 8 then
    let h := spriteHeight s
    let col0 := x + 8 - p.x
    let row0 := y + 16 - p.y
    let col := if bitOf p.attr 5 then 7 - col0 else col0
    let row := if bitOf p.attr 6 then h - 1 - row0 else row0
    let tn : Byte := if h = 16 then p.tile &&& 0xFE else p.tile
    tileIndex s (tn + trunc8 (row / 8)) (row % 8) col true
  else 0

/-- R495, R496: the shade the sprites give column x of line y, over the index `bi` below; `none` where no sprite shows.
The first opaque sprite decides: if its priority bit hides it, no sprite below it shows. -/
def spritePixel (s : State) (sprites : List Sprite) (x y : Nat) (bi : BitVec 2) : Option (BitVec 2) :=
  match sprites with
  | [] => none
  | p :: rest =>
    if spriteIndex s x y p = 0 then spritePixel s rest x y bi
    else if bitOf p.attr 7 && decide (bi ≠ 0) then none
    else some (palette (if bitOf p.attr 4 then s.ppu.obp1 else s.ppu.obp0) (spriteIndex s x y p))

/-- R489: the shade of column x of line y. -/
def pixelShade (s : State) (sprites : List Sprite) (x y : Nat) : BitVec 2 :=
  let bi := bgWinIndex s x y
  (spritePixel s sprites x y bi).getD (palette s.ppu.bgp bi)

/-- The key of a pixel in `State.pixels` (R52). -/
def pixelKey (x y : Nat) : Nat := screenWidth * y + x

/-- R489: the pixels after line y's 160 columns are written. (Irreducible: no unifier is to run the 160 columns.) -/
@[irreducible] def linePixels (y : Nat) (s : State) : List (Nat × BitVec 2) :=
  let sprites := selectSprites s y
  (List.range screenWidth).foldl
    (fun px x => Store.write px (pixelKey x y) (pixelShade s sprites x y)) s.pixels

/-- `compose_line(y)` (R489). -/
def composeLine (y : Nat) (s : State) : State := { s with pixels := linePixels y s }

/-- The shade the display reads at column x of line y (R52). -/
def pixelAt (s : State) (x y : Nat) : BitVec 2 := Store.read s.pixels (pixelKey x y)

/-! ### The mode machine -/

/-- Set the PPU's mode, its dot counter going back to 0: every transition's shared part (R470). -/
def enterMode (m : PpuMode) (s : State) : State := { s with ppu := { s.ppu with mode := m, modeDot := 0 } }

/-- Set LY. -/
def setLy (n : Nat) (s : State) : State := { s with ppu := { s.ppu with ly := n } }

/-- Set the `composed` flag. -/
def setComposed (b : Bool) (s : State) : State := { s with ppu := { s.ppu with composed := b } }

/-- R480: a STAT source whose enable is STAT_EN[i] requests IF bit 1. -/
def statRequest (i : Nat) (s : State) : State := if s.ppu.statEn.getLsbD i then request 1 s else s

/-- LY = LYC (R481); LYC values above 153 never match (R483). -/
def lycMatches (s : State) : Bool := decide (s.ppu.ly = s.ppu.lyc.toNat)

/-- `update_lyc()` (R481). -/
def updateLyc (s : State) : State :=
  let s1 := { s with ppu := { s.ppu with statLyc := lycMatches s } }
  if lycMatches s then statRequest 3 s1 else s1

/-- R472: OAM-search ends; the line is composed once. -/
def endOamSearch (s : State) : State :=
  let s1 := enterMode .pixelTransfer s
  if s1.ppu.composed then s1 else setComposed true (composeLine s1.ppu.ly s1)

/-- R473: pixel-transfer ends. -/
def endPixelTransfer (s : State) : State := statRequest 0 (enterMode .hblank s)

/-- R474: h-blank ends: the next line, or v-blank at line 144. -/
def endHblank (s : State) : State :=
  let s1 := updateLyc (setLy (s.ppu.ly + 1) s)
  if s1.ppu.ly = visibleLines then statRequest 1 (request 0 (enterMode .vblank s1))
  else statRequest 2 (setComposed false (enterMode .oamSearch s1))

/-- R475: a v-blank line ends: the next one, or line 0 after line 153. -/
def endVblankLine (s : State) : State :=
  if s.ppu.ly = lastLine then
    statRequest 2 (setComposed false (enterMode .oamSearch (updateLyc (setLy 0 s))))
  else enterMode .vblank (updateLyc (setLy (s.ppu.ly + 1) s))

/-- R471: the length of the current mode. -/
def modeLength : PpuMode → Nat
  | .hblank => hblankDots
  | .vblank => vblankDots
  | .oamSearch => oamDots
  | .pixelTransfer => transferDots

/-- R472-R475: what happens in the dot in which the mode's length is reached. -/
def endMode (s : State) : State :=
  match s.ppu.mode with
  | .hblank => endHblank s
  | .vblank => endVblankLine s
  | .oamSearch => endOamSearch s
  | .pixelTransfer => endPixelTransfer s

/-- R470: one dot of the enabled PPU. -/
def modeTick (s : State) : State :=
  let s1 := { s with ppu := { s.ppu with modeDot := s.ppu.modeDot + 1 } }
  if s1.ppu.modeDot = modeLength s1.ppu.mode then endMode s1 else s1

/-- `lcd_off_dot()` (R486). -/
def lcdOffDot (s : State) : State :=
  if s.ppu.lcdOffSeen then s
  else { s with ppu := { s.ppu with lcdOffSeen := true, ly := 0, mode := .hblank, modeDot := 0, composed := false } }

/-- `lcd_restart()` (R486). -/
def lcdRestart (s : State) : State :=
  { s with ppu := { s.ppu with lcdOffSeen := false, mode := .oamSearch, modeDot := 0, ly := 0, composed := false } }

/-- `ppu_dot()` (R470). -/
def ppuDot (s : State) : State :=
  if lcdOn s then modeTick (if s.ppu.lcdOffSeen then lcdRestart s else s)
  else lcdOffDot s

end Sys2Proof.Machine
end

