-- ==== Sys2Proof/Machine/Timer.lean ====
section
/-!
DEFINITION. The timer's dot (61_timer.md R440-R449). Its registers are reached through Machine/Bus.lean.
-/

namespace Sys2Proof.Machine

/-- R441: dots per TIMA increment, for the frequency field TAC[1:0]. -/
def timerThreshold (f : BitVec 2) : Nat :=
  if f = 0 then 1024
  else if f = 1 then 16
  else if f = 2 then 64
  else 256

/-- TAC[2] (R46). -/
def timerEnabled (t : Timer) : Bool := t.tac.getLsbD 2

/-- TAC[1:0] (R46). -/
def timerRate (t : Timer) : BitVec 2 := field t.tac 0 2

/-- This dot, after the accumulator's count, reaches the threshold (R440). -/
def timerFires (t : Timer) : Bool :=
  timerEnabled t && decide (t.tacc + 1 ≥ timerThreshold (timerRate t))

/-- This dot overflows TIMA (R442, R444). -/
def timerOverflows (t : Timer) : Bool := timerFires t && decide (t.tima = 0xFF)

/-- R442: TIMA after an increment: reloaded from TMA on overflow. -/
def timaNext (t : Timer) : Byte := if t.tima = 0xFF then t.tma else t.tima + 1

/-- R440: the timer registers after one dot. -/
def timerNext (t : Timer) : Timer :=
  { t with
    div16 := t.div16 + 1
    tacc := if timerEnabled t then (if timerFires t then 0 else t.tacc + 1) else t.tacc
    tima := if timerFires t then timaNext t else t.tima }

/-- `timer_dot()` (R440, R442): an overflow requests IF bit 2 in the same dot. -/
def timerDot (s : State) : State :=
  let s1 := { s with timer := timerNext s.timer }
  if timerOverflows s.timer then request 2 s1 else s1

end Sys2Proof.Machine
end

