-- ==== Sys2Proof/Machine/Cpu.lean ====
section
/-!
DEFINITION. Fetching an instruction, the CPU's dot with its boundary (60_exceptions.md R402-R404), and one dot of the
whole core (R400). Machine/Step.lean only calls `dot`.
-/

namespace Sys2Proof.Machine

/-- The bytes an instruction at PC may take, in fetch order (R12, R180). Reads change nothing (R102), so reading three
bytes and decoding as many as the instruction has is the fetch of R180. With the halt-bug latch set, the byte after
the opcode byte is fetched from the opcode byte's own address (R351). -/
def fetchBytes (s : State) : List Byte :=
  let second := s.regs.pc + s.opcodeStep
  [readByte s s.regs.pc, readByte s second, readByte s (second + 1)]

/-- The deferred write of EI (R404): it needs EI's flag set both before and after the instruction, and an instruction
that ran, not one that raised (R405). -/
def armEi (armed : Bool) (s : State) : State :=
  if armed && s.ctl.eiPending && s.ctl.fatal.isNone then (s.setIme true).setEiPending false else s

/-- `execute_one()` (R404). -/
def executeOne (s : State) : Result :=
  match decode (fetchBytes s) with
  | .reject _ => .refused .undecodable
  | .instr i _ =>
    match exec i s with
    | .next t => .next (armEi s.ctl.eiPending t)
    | .fault r => .fault r
    | .refused r => .refused r

/-- The boundary of R402, in the order R408 lists: stopped, interrupt service, halt, fetch. -/
def boundary (s : State) : Result :=
  if s.ctl.stopped then .next s
  else if s.ctl.ime && anyEligible s.intr then .next (takeInterrupt s)
  else if s.ctl.halted && !anyEligible s.intr then .next s
  else executeOne (s.setHalted false)

/-- `cpu_dot()` (R402): `wait` is counted down first; the boundary is the dot in which it is, or becomes, 0. -/
def cpuDot (s : State) : Result :=
  let s1 := s.setWait (s.ctl.wait - 1)
  if s1.ctl.wait > 0 then .next s1 else boundary s1

/-- The units after the CPU in a dot (R400). They do not run in a dot in which the CPU raised (R405). -/
def unitsDot (s : State) : State :=
  if s.ctl.fatal.isSome then s else timerDot (ppuDot s)

/-- One dot of the core (R400). Once `fatal` is set nothing advances again: for the model that is a fault (R405,
log 5). -/
def dot (s : State) : Result :=
  match s.ctl.fatal with
  | some e => .fault (.unimplementedOpcode e.byte e.addr)
  | none =>
    match cpuDot s with
    | .next t => .next (unitsDot t)
    | .fault r => .fault r
    | .refused r => .refused r

end Sys2Proof.Machine
end

