-- ==== Sys2Proof/Machine/Loader.lean ====
section
/-!
DEFINITION. Putting an instruction's bytes where the next fetch reads them (log 9). This is the outside of the machine
(a cartridge image or a memory's contents chosen before a run), not an action of the core.
-/

namespace Sys2Proof.Machine

/-- The address reads a byte that can be chosen: boot ROM, an image or RAM byte in range, or plain storage. -/
def placeable (s : State) (a : Word) : Bool :=
  match ownerOf s.io.bootOverlay a with
  | .bootOverlay => true
  | .cartRom => decide (romOffset s.cart a.toNat < s.cart.romLen)
  | .vram => true
  | .cartRam => ramReached s.cart a.toNat
  | .wram => true
  | .oam => true
  | .unmapped => false
  | .io => decide (ioReg a = .apu)
  | .hram => true
  | .ie => false

/-- Choose the byte an address reads. -/
def placeByte (s : State) (a : Word) (v : Byte) : State :=
  match ownerOf s.io.bootOverlay a with
  | .bootOverlay => { s with params := { s.params with bootRom := Store.write s.params.bootRom a.toNat v } }
  | .cartRom => { s with cart := { s.cart with rom := Store.write s.cart.rom (romOffset s.cart a.toNat) v } }
  | .cartRam => { s with cart := { s.cart with ram := Store.write s.cart.ram (ramOffset s.cart a.toNat) v } }
  | _ => writeCell s (cellOf a) v

/-- The start of working RAM, where a PC that cannot hold chosen bytes is moved. -/
def wramBase : Word := 0xC000

/-- The state whose next dot fetches (R402): no dots to wait out, not halted, not stopped, no latch, no fatal error, no
interrupt about to be serviced, and PC where three bytes can be chosen. At reset it changes nothing. -/
def readyToFetch (s : State) : State :=
  let pc := s.regs.pc
  let ok := placeable s pc && placeable s (pc + 1) && placeable s (pc + 2)
  let s1 := if ok then s else s.setPc wramBase
  { s1 with ctl := { s1.ctl with ime := s1.ctl.ime && !anyEligible s1.intr, halted := false, stopped := false,
                                 haltBugLatch := false, wait := 0, fatal := none } }

/-- Choose the bytes from an address on. -/
def placeBytes (s : State) (a : Word) (bytes : List Byte) : State :=
  match bytes with
  | [] => s
  | v :: rest => placeBytes (placeByte s a v) (a + 1) rest

/-- The state in which the next step runs the instruction of these bytes. -/
def placeInstruction (s : State) (bytes : List Byte) : State :=
  let s1 := readyToFetch s
  placeBytes s1 s1.regs.pc bytes

end Sys2Proof.Machine
end

