-- ==== Sys2Proof/Machine/Step.lean ====
section
/-! DEFINITION. One step of the machine: one dot (00_scope.md R15, 60_exceptions.md R400). -/

namespace Sys2Proof.Machine

/-- One step: `advance_one_dot()` on the CPU, the PPU and the timer, in that order (R400). -/
def step (s : State) : Host.Outcome State Fault Refusal := dot s

/-- `s` with the instruction that a table row's number stands for placed where the next step fetches (log 9). -/
def State.withFetchWord (s : State) (nbits w : Nat) : State := placeInstruction s (tableBytes nbits w)

end Sys2Proof.Machine
end

