-- ==== Sys2Proof/Machine/Construct.lean ====
section
/-!
DEFINITION. Construction (70_reset_and_hazards.md R530-R533, 21_cartridge.md R131-R134, R148): the reset state for every
value of the open parameters, or a refusal. `State.reset` is the construction of `BuildArgs.default`.
-/

namespace Sys2Proof.Machine

/-- A key of `State.mem`: an address of plain storage (R51, R53, R55). -/
def plainCell (n : Nat) : Bool :=
  decide (0x8000 ≤ n ∧ n ≤ 0x9FFF) || decide (0xC000 ≤ n ∧ n ≤ 0xDFFF) || decide (0xFE00 ≤ n ∧ n ≤ 0xFE9F) ||
    decide (0xFF10 ≤ n ∧ n ≤ 0xFF3F) || decide (0xFF80 ≤ n ∧ n ≤ 0xFFFE)

/-- The number of pixels (R52). -/
def pixelCount : Nat := 160 * 144

/-- R134: `len(ram)` by family: 0 for ROM-only whatever the code says. -/
def ramLenFor (f : Family) (code : Byte) : Option Nat :=
  match f with
  | .romOnly => some 0
  | .mbc1 => ramLenOfCode code

/-- R70: the CPU registers at reset. -/
def resetRegs (b : BuildArgs) : Regs :=
  match b.bootMode with
  | .postBoot =>
    { a := 0x01, f := 0xB0, b := 0x00, c := 0x13, d := 0x00, e := 0xD8, h := 0x01, l := 0x4D,
      sp := 0xFFFE, pc := 0x0100 }
  | .bootRom =>
    let r := b.initialRegs
    { a := r.a, f := r.f &&& 0xF0, b := r.b, c := r.c, d := r.d, e := r.e, h := r.h, l := r.l,
      sp := r.sp, pc := 0x0000 }

/-- R58, R531 (1), (2): the cartridge an admitted image gives. -/
def resetCart (b : BuildArgs) (f : Family) (ramLen : Nat) : Cart :=
  { family := f
    rom := Store.ofList (fun k => decide (k < b.imageLen)) b.image
    romLen := b.imageLen
    ram := Store.ofList (fun k => decide (k < ramLen)) b.cartRamInit
    ramLen := ramLen
    romLo5 := 1, bankHi2 := 0, bankMode := false, ramEnable := false }

/-- R531 (3), (4): the reset state of an admitted cartridge. -/
def resetState (b : BuildArgs) (f : Family) (ramLen : Nat) : State :=
  { State.reset with
    regs := resetRegs b
    io := { State.reset.io with bootOverlay := decide (b.bootMode = .bootRom) }
    cart := resetCart b f ramLen
    mem := Store.ofList plainCell b.initialMem
    pixels := Store.ofList (fun k => decide (k < pixelCount)) b.initialPixels
    params := { b.params with bootRom := Store.ofList (fun k => decide (k < 256)) b.params.bootRom } }

/-- A byte of `CART_IMAGE` (R131). -/
def imageByte (b : BuildArgs) (off : Nat) : Byte :=
  Store.read (Store.ofList (fun k => decide (k < b.imageLen)) b.image) off

/-- Construction (R531), with the refusals of R148. -/
def construct (b : BuildArgs) : Result :=
  if b.imageLen < minImageLen then .refused (.imageTooShort b.imageLen)
  else
    match familyOfType (imageByte b headerType) with
    | none => .refused (.cartridgeType (imageByte b headerType))
    | some f =>
      match ramLenFor f (imageByte b headerRamSize) with
      | none => .refused (.ramSizeCode (imageByte b headerRamSize))
      | some n => .next (resetState b f n)

end Sys2Proof.Machine
end

