-- ==== Sys2Proof/Machine/Shape.lean ====
section
/-!
DEFINITION. The form of an instruction: the shared operation its meaning is, with its operands. A form stands for all
the instructions that differ only in the registers, bit number or condition they name. Statements speak of "every
instruction of this form"; `Laws/Shape.lean` proves that `exec` is `Shape.run` of the instruction's form, so that a
proof over all instructions has as many cases as there are forms.
-/

namespace Sys2Proof.Machine

/-- The forms. -/
inductive Shape where
  | nop
  | halt
  | stop
  | disableInts
  | enableInts
  | illegal (op : Byte)
  | loadReg (dst : Reg8) (src : Reg8)
  | loadRegImm (dst : Reg8) (n : Byte)
  | loadRegMem (dst : Reg8)
  | storeMemReg (src : Reg8)
  | storeMemImm (n : Byte)
  | loadAccAbs (w : Word)
  | storeAccAbs (w : Word)
  | loadAccInd (p : Pair)
  | storeAccInd (p : Pair)
  | loadHigh (n : Byte)
  | storeHigh (n : Byte)
  | loadHighC
  | storeHighC
  | storeAccStep (k : Word)
  | loadAccStep (k : Word)
  | loadPairImm (p : Pair) (w : Word)
  | loadSpHl
  | storeSpAbs (w : Word)
  | pushPair (p : StackPair)
  | popPair (p : StackPair)
  | aluReg (op : AluOp) (r : Reg8)
  | aluMem (op : AluOp)
  | aluImm (op : AluOp) (n : Byte)
  | incReg (r : Reg8)
  | incMem
  | decReg (r : Reg8)
  | decMem
  | decimalAdjust
  | complementAcc
  | setCarry
  | complementCarry
  | addHl (p : Pair)
  | incPair (p : Pair)
  | decPair (p : Pair)
  | addSpDisp (e : Byte)
  | loadHlSpDisp (e : Byte)
  | rotAcc (op : RotOp)
  | cbRot (op : RotOp) (o : Operand8)
  | cbBit (n : BitVec 3) (o : Operand8)
  | cbRes (n : BitVec 3) (o : Operand8)
  | cbSet (n : BitVec 3) (o : Operand8)
  | jumpAbs (w : Word)
  | jumpAbsIf (cc : Cond) (w : Word)
  | jumpHl
  | jumpRel (e : Byte)
  | jumpRelIf (cc : Cond) (e : Byte)
  | callAbs (w : Word)
  | callAbsIf (cc : Cond) (w : Word)
  | ret
  | retIf (cc : Cond)
  | reti
  | restart (y : BitVec 3)
  deriving DecidableEq, Repr

/-- The shared operation of a form. -/
def Shape.run (sh : Shape) (s : State) : Result :=
  match sh with
  | .nop => Machine.nop s
  | .halt => Machine.halt s
  | .stop => Machine.stop s
  | .disableInts => Machine.disableInts s
  | .enableInts => Machine.enableInts s
  | .illegal op => Machine.illegal op s
  | .loadReg dst src => Machine.loadReg dst src s
  | .loadRegImm dst n => Machine.loadRegImm dst n s
  | .loadRegMem dst => Machine.loadRegMem dst s
  | .storeMemReg src => Machine.storeMemReg src s
  | .storeMemImm n => Machine.storeMemImm n s
  | .loadAccAbs w => Machine.loadAccAbs w s
  | .storeAccAbs w => Machine.storeAccAbs w s
  | .loadAccInd p => Machine.loadAccInd p s
  | .storeAccInd p => Machine.storeAccInd p s
  | .loadHigh n => Machine.loadHigh n s
  | .storeHigh n => Machine.storeHigh n s
  | .loadHighC => Machine.loadHighC s
  | .storeHighC => Machine.storeHighC s
  | .storeAccStep k => Machine.storeAccStep k s
  | .loadAccStep k => Machine.loadAccStep k s
  | .loadPairImm p w => Machine.loadPairImm p w s
  | .loadSpHl => Machine.loadSpHl s
  | .storeSpAbs w => Machine.storeSpAbs w s
  | .pushPair p => Machine.pushPair p s
  | .popPair p => Machine.popPair p s
  | .aluReg op r => Machine.aluReg op r s
  | .aluMem op => Machine.aluMem op s
  | .aluImm op n => Machine.aluImm op n s
  | .incReg r => Machine.incReg r s
  | .incMem => Machine.incMem s
  | .decReg r => Machine.decReg r s
  | .decMem => Machine.decMem s
  | .decimalAdjust => Machine.decimalAdjust s
  | .complementAcc => Machine.complementAcc s
  | .setCarry => Machine.setCarry s
  | .complementCarry => Machine.complementCarry s
  | .addHl p => Machine.addHl p s
  | .incPair p => Machine.incPair p s
  | .decPair p => Machine.decPair p s
  | .addSpDisp e => Machine.addSpDisp e s
  | .loadHlSpDisp e => Machine.loadHlSpDisp e s
  | .rotAcc op => Machine.rotAcc op s
  | .cbRot op o => Machine.cbRot op o s
  | .cbBit n o => Machine.cbBit n o s
  | .cbRes n o => Machine.cbRes n o s
  | .cbSet n o => Machine.cbSet n o s
  | .jumpAbs w => Machine.jumpAbs w s
  | .jumpAbsIf cc w => Machine.jumpAbsIf cc w s
  | .jumpHl => Machine.jumpHl s
  | .jumpRel e => Machine.jumpRel e s
  | .jumpRelIf cc e => Machine.jumpRelIf cc e s
  | .callAbs w => Machine.callAbs w s
  | .callAbsIf cc w => Machine.callAbsIf cc w s
  | .ret => Machine.ret s
  | .retIf cc => Machine.retIf cc s
  | .reti => Machine.reti s
  | .restart y => Machine.restart y s

/-- R162, R177: the form the byte after the CB prefix names, by its fields. -/
def prefixShape (c : Byte) : Shape :=
  let x : BitVec 2 := field c 6 2
  let y : BitVec 3 := field c 3 3
  let z : BitVec 3 := field c 0 3
  if x = 0 then .cbRot (rotTable y) (r8Table z)
  else if x = 1 then .cbBit y (r8Table z)
  else if x = 2 then .cbRes y (r8Table z)
  else .cbSet y (r8Table z)

end Sys2Proof.Machine

namespace Sys2Proof

/-- The form of each instruction. -/
def Instr.shape (i : Instr) : Machine.Shape :=
  match i with
  | .nop => .nop
  | .ldBCd16 w => .loadPairImm .bc w
  | .ldMemBCA => .storeAccInd .bc
  | .incBC => .incPair .bc
  | .incB => .incReg .b
  | .decB => .decReg .b
  | .ldBd8 n => .loadRegImm .b n
  | .rlca => .rotAcc .rlc
  | .ldMemA16SP w => .storeSpAbs w
  | .addHLBC => .addHl .bc
  | .ldAMemBC => .loadAccInd .bc
  | .decBC => .decPair .bc
  | .incC => .incReg .c
  | .decC => .decReg .c
  | .ldCd8 n => .loadRegImm .c n
  | .rrca => .rotAcc .rrc
  | .stop _ => .stop
  | .ldDEd16 w => .loadPairImm .de w
  | .ldMemDEA => .storeAccInd .de
  | .incDE => .incPair .de
  | .incD => .incReg .d
  | .decD => .decReg .d
  | .ldDd8 n => .loadRegImm .d n
  | .rla => .rotAcc .rl
  | .jrE8 e => .jumpRel e
  | .addHLDE => .addHl .de
  | .ldAMemDE => .loadAccInd .de
  | .decDE => .decPair .de
  | .incE => .incReg .e
  | .decE => .decReg .e
  | .ldEd8 n => .loadRegImm .e n
  | .rra => .rotAcc .rr
  | .jrNZe8 e => .jumpRelIf .nz e
  | .ldHLd16 w => .loadPairImm .hl w
  | .ldMemHLIncA => .storeAccStep 1
  | .incHL => .incPair .hl
  | .incH => .incReg .h
  | .decH => .decReg .h
  | .ldHd8 n => .loadRegImm .h n
  | .daa => .decimalAdjust
  | .jrZe8 e => .jumpRelIf .z e
  | .addHLHL => .addHl .hl
  | .ldAMemHLInc => .loadAccStep 1
  | .decHL => .decPair .hl
  | .incL => .incReg .l
  | .decL => .decReg .l
  | .ldLd8 n => .loadRegImm .l n
  | .cpl => .complementAcc
  | .jrNCe8 e => .jumpRelIf .nc e
  | .ldSPd16 w => .loadPairImm .sp w
  | .ldMemHLDecA => .storeAccStep (-1)
  | .incSP => .incPair .sp
  | .incMemHL => .incMem
  | .decMemHL => .decMem
  | .ldMemHLd8 n => .storeMemImm n
  | .scf => .setCarry
  | .jrCe8 e => .jumpRelIf .c e
  | .addHLSP => .addHl .sp
  | .ldAMemHLDec => .loadAccStep (-1)
  | .decSP => .decPair .sp
  | .incA => .incReg .a
  | .decA => .decReg .a
  | .ldAd8 n => .loadRegImm .a n
  | .ccf => .complementCarry
  | .ldBB => .loadReg .b .b
  | .ldBC => .loadReg .b .c
  | .ldBD => .loadReg .b .d
  | .ldBE => .loadReg .b .e
  | .ldBH => .loadReg .b .h
  | .ldBL => .loadReg .b .l
  | .ldBMemHL => .loadRegMem .b
  | .ldBA => .loadReg .b .a
  | .ldCB => .loadReg .c .b
  | .ldCC => .loadReg .c .c
  | .ldCD => .loadReg .c .d
  | .ldCE => .loadReg .c .e
  | .ldCH => .loadReg .c .h
  | .ldCL => .loadReg .c .l
  | .ldCMemHL => .loadRegMem .c
  | .ldCA => .loadReg .c .a
  | .ldDB => .loadReg .d .b
  | .ldDC => .loadReg .d .c
  | .ldDD => .loadReg .d .d
  | .ldDE => .loadReg .d .e
  | .ldDH => .loadReg .d .h
  | .ldDL => .loadReg .d .l
  | .ldDMemHL => .loadRegMem .d
  | .ldDA => .loadReg .d .a
  | .ldEB => .loadReg .e .b
  | .ldEC => .loadReg .e .c
  | .ldED => .loadReg .e .d
  | .ldEE => .loadReg .e .e
  | .ldEH => .loadReg .e .h
  | .ldEL => .loadReg .e .l
  | .ldEMemHL => .loadRegMem .e
  | .ldEA => .loadReg .e .a
  | .ldHB => .loadReg .h .b
  | .ldHC => .loadReg .h .c
  | .ldHD => .loadReg .h .d
  | .ldHE => .loadReg .h .e
  | .ldHH => .loadReg .h .h
  | .ldHL => .loadReg .h .l
  | .ldHMemHL => .loadRegMem .h
  | .ldHA => .loadReg .h .a
  | .ldLB => .loadReg .l .b
  | .ldLC => .loadReg .l .c
  | .ldLD => .loadReg .l .d
  | .ldLE => .loadReg .l .e
  | .ldLH => .loadReg .l .h
  | .ldLL => .loadReg .l .l
  | .ldLMemHL => .loadRegMem .l
  | .ldLA => .loadReg .l .a
  | .ldMemHLB => .storeMemReg .b
  | .ldMemHLC => .storeMemReg .c
  | .ldMemHLD => .storeMemReg .d
  | .ldMemHLE => .storeMemReg .e
  | .ldMemHLH => .storeMemReg .h
  | .ldMemHLL => .storeMemReg .l
  | .halt => .halt
  | .ldMemHLA => .storeMemReg .a
  | .ldAB => .loadReg .a .b
  | .ldAC => .loadReg .a .c
  | .ldAD => .loadReg .a .d
  | .ldAE => .loadReg .a .e
  | .ldAH => .loadReg .a .h
  | .ldAL => .loadReg .a .l
  | .ldAMemHL => .loadRegMem .a
  | .ldAA => .loadReg .a .a
  | .addAB => .aluReg .add .b
  | .addAC => .aluReg .add .c
  | .addAD => .aluReg .add .d
  | .addAE => .aluReg .add .e
  | .addAH => .aluReg .add .h
  | .addAL => .aluReg .add .l
  | .addAMemHL => .aluMem .add
  | .addAA => .aluReg .add .a
  | .adcAB => .aluReg .adc .b
  | .adcAC => .aluReg .adc .c
  | .adcAD => .aluReg .adc .d
  | .adcAE => .aluReg .adc .e
  | .adcAH => .aluReg .adc .h
  | .adcAL => .aluReg .adc .l
  | .adcAMemHL => .aluMem .adc
  | .adcAA => .aluReg .adc .a
  | .subAB => .aluReg .sub .b
  | .subAC => .aluReg .sub .c
  | .subAD => .aluReg .sub .d
  | .subAE => .aluReg .sub .e
  | .subAH => .aluReg .sub .h
  | .subAL => .aluReg .sub .l
  | .subAMemHL => .aluMem .sub
  | .subAA => .aluReg .sub .a
  | .sbcAB => .aluReg .sbc .b
  | .sbcAC => .aluReg .sbc .c
  | .sbcAD => .aluReg .sbc .d
  | .sbcAE => .aluReg .sbc .e
  | .sbcAH => .aluReg .sbc .h
  | .sbcAL => .aluReg .sbc .l
  | .sbcAMemHL => .aluMem .sbc
  | .sbcAA => .aluReg .sbc .a
  | .andAB => .aluReg .and .b
  | .andAC => .aluReg .and .c
  | .andAD => .aluReg .and .d
  | .andAE => .aluReg .and .e
  | .andAH => .aluReg .and .h
  | .andAL => .aluReg .and .l
  | .andAMemHL => .aluMem .and
  | .andAA => .aluReg .and .a
  | .xorAB => .aluReg .xor .b
  | .xorAC => .aluReg .xor .c
  | .xorAD => .aluReg .xor .d
  | .xorAE => .aluReg .xor .e
  | .xorAH => .aluReg .xor .h
  | .xorAL => .aluReg .xor .l
  | .xorAMemHL => .aluMem .xor
  | .xorAA => .aluReg .xor .a
  | .orAB => .aluReg .or .b
  | .orAC => .aluReg .or .c
  | .orAD => .aluReg .or .d
  | .orAE => .aluReg .or .e
  | .orAH => .aluReg .or .h
  | .orAL => .aluReg .or .l
  | .orAMemHL => .aluMem .or
  | .orAA => .aluReg .or .a
  | .cpAB => .aluReg .cp .b
  | .cpAC => .aluReg .cp .c
  | .cpAD => .aluReg .cp .d
  | .cpAE => .aluReg .cp .e
  | .cpAH => .aluReg .cp .h
  | .cpAL => .aluReg .cp .l
  | .cpAMemHL => .aluMem .cp
  | .cpAA => .aluReg .cp .a
  | .retNZ => .retIf .nz
  | .popBC => .popPair .bc
  | .jpNZA16 w => .jumpAbsIf .nz w
  | .jpA16 w => .jumpAbs w
  | .callNZA16 w => .callAbsIf .nz w
  | .pushBC => .pushPair .bc
  | .addAd8 n => .aluImm .add n
  | .rst00 => .restart 0
  | .retZ => .retIf .z
  | .ret => .ret
  | .jpZA16 w => .jumpAbsIf .z w
  | .prefixCB c => Machine.prefixShape c
  | .callZA16 w => .callAbsIf .z w
  | .callA16 w => .callAbs w
  | .adcAd8 n => .aluImm .adc n
  | .rst08 => .restart 1
  | .retNC => .retIf .nc
  | .popDE => .popPair .de
  | .jpNCA16 w => .jumpAbsIf .nc w
  | .illegalD3 => .illegal 0xD3
  | .callNCA16 w => .callAbsIf .nc w
  | .pushDE => .pushPair .de
  | .subAd8 n => .aluImm .sub n
  | .rst10 => .restart 2
  | .retC => .retIf .c
  | .reti => .reti
  | .jpCA16 w => .jumpAbsIf .c w
  | .illegalDB => .illegal 0xDB
  | .callCA16 w => .callAbsIf .c w
  | .illegalDD => .illegal 0xDD
  | .sbcAd8 n => .aluImm .sbc n
  | .rst18 => .restart 3
  | .ldhMemA8A n => .storeHigh n
  | .popHL => .popPair .hl
  | .ldMemCA => .storeHighC
  | .illegalE3 => .illegal 0xE3
  | .illegalE4 => .illegal 0xE4
  | .pushHL => .pushPair .hl
  | .andAd8 n => .aluImm .and n
  | .rst20 => .restart 4
  | .addSPe8 e => .addSpDisp e
  | .jpHL => .jumpHl
  | .ldMemA16A w => .storeAccAbs w
  | .illegalEB => .illegal 0xEB
  | .illegalEC => .illegal 0xEC
  | .illegalED => .illegal 0xED
  | .xorAd8 n => .aluImm .xor n
  | .rst28 => .restart 5
  | .ldhAMemA8 n => .loadHigh n
  | .popAF => .popPair .af
  | .ldAMemC => .loadHighC
  | .di => .disableInts
  | .illegalF4 => .illegal 0xF4
  | .pushAF => .pushPair .af
  | .orAd8 n => .aluImm .or n
  | .rst30 => .restart 6
  | .ldHLSPe8 e => .loadHlSpDisp e
  | .ldSPHL => .loadSpHl
  | .ldAMemA16 w => .loadAccAbs w
  | .ei => .enableInts
  | .illegalFC => .illegal 0xFC
  | .illegalFD => .illegal 0xFD
  | .cpAd8 n => .aluImm .cp n
  | .rst38 => .restart 7
  | .rlcB => .cbRot .rlc (.reg .b)
  | .rlcC => .cbRot .rlc (.reg .c)
  | .rlcD => .cbRot .rlc (.reg .d)
  | .rlcE => .cbRot .rlc (.reg .e)
  | .rlcH => .cbRot .rlc (.reg .h)
  | .rlcL => .cbRot .rlc (.reg .l)
  | .rlcMemHL => .cbRot .rlc .memHL
  | .rlcA => .cbRot .rlc (.reg .a)
  | .rrcB => .cbRot .rrc (.reg .b)
  | .rrcC => .cbRot .rrc (.reg .c)
  | .rrcD => .cbRot .rrc (.reg .d)
  | .rrcE => .cbRot .rrc (.reg .e)
  | .rrcH => .cbRot .rrc (.reg .h)
  | .rrcL => .cbRot .rrc (.reg .l)
  | .rrcMemHL => .cbRot .rrc .memHL
  | .rrcA => .cbRot .rrc (.reg .a)
  | .rlB => .cbRot .rl (.reg .b)
  | .rlC => .cbRot .rl (.reg .c)
  | .rlD => .cbRot .rl (.reg .d)
  | .rlE => .cbRot .rl (.reg .e)
  | .rlH => .cbRot .rl (.reg .h)
  | .rlL => .cbRot .rl (.reg .l)
  | .rlMemHL => .cbRot .rl .memHL
  | .rlA => .cbRot .rl (.reg .a)
  | .rrB => .cbRot .rr (.reg .b)
  | .rrC => .cbRot .rr (.reg .c)
  | .rrD => .cbRot .rr (.reg .d)
  | .rrE => .cbRot .rr (.reg .e)
  | .rrH => .cbRot .rr (.reg .h)
  | .rrL => .cbRot .rr (.reg .l)
  | .rrMemHL => .cbRot .rr .memHL
  | .rrA => .cbRot .rr (.reg .a)
  | .slaB => .cbRot .sla (.reg .b)
  | .slaC => .cbRot .sla (.reg .c)
  | .slaD => .cbRot .sla (.reg .d)
  | .slaE => .cbRot .sla (.reg .e)
  | .slaH => .cbRot .sla (.reg .h)
  | .slaL => .cbRot .sla (.reg .l)
  | .slaMemHL => .cbRot .sla .memHL
  | .slaA => .cbRot .sla (.reg .a)
  | .sraB => .cbRot .sra (.reg .b)
  | .sraC => .cbRot .sra (.reg .c)
  | .sraD => .cbRot .sra (.reg .d)
  | .sraE => .cbRot .sra (.reg .e)
  | .sraH => .cbRot .sra (.reg .h)
  | .sraL => .cbRot .sra (.reg .l)
  | .sraMemHL => .cbRot .sra .memHL
  | .sraA => .cbRot .sra (.reg .a)
  | .swapB => .cbRot .swap (.reg .b)
  | .swapC => .cbRot .swap (.reg .c)
  | .swapD => .cbRot .swap (.reg .d)
  | .swapE => .cbRot .swap (.reg .e)
  | .swapH => .cbRot .swap (.reg .h)
  | .swapL => .cbRot .swap (.reg .l)
  | .swapMemHL => .cbRot .swap .memHL
  | .swapA => .cbRot .swap (.reg .a)
  | .srlB => .cbRot .srl (.reg .b)
  | .srlC => .cbRot .srl (.reg .c)
  | .srlD => .cbRot .srl (.reg .d)
  | .srlE => .cbRot .srl (.reg .e)
  | .srlH => .cbRot .srl (.reg .h)
  | .srlL => .cbRot .srl (.reg .l)
  | .srlMemHL => .cbRot .srl .memHL
  | .srlA => .cbRot .srl (.reg .a)
  | .bit0B => .cbBit 0 (.reg .b)
  | .bit0C => .cbBit 0 (.reg .c)
  | .bit0D => .cbBit 0 (.reg .d)
  | .bit0E => .cbBit 0 (.reg .e)
  | .bit0H => .cbBit 0 (.reg .h)
  | .bit0L => .cbBit 0 (.reg .l)
  | .bit0MemHL => .cbBit 0 .memHL
  | .bit0A => .cbBit 0 (.reg .a)
  | .bit1B => .cbBit 1 (.reg .b)
  | .bit1C => .cbBit 1 (.reg .c)
  | .bit1D => .cbBit 1 (.reg .d)
  | .bit1E => .cbBit 1 (.reg .e)
  | .bit1H => .cbBit 1 (.reg .h)
  | .bit1L => .cbBit 1 (.reg .l)
  | .bit1MemHL => .cbBit 1 .memHL
  | .bit1A => .cbBit 1 (.reg .a)
  | .bit2B => .cbBit 2 (.reg .b)
  | .bit2C => .cbBit 2 (.reg .c)
  | .bit2D => .cbBit 2 (.reg .d)
  | .bit2E => .cbBit 2 (.reg .e)
  | .bit2H => .cbBit 2 (.reg .h)
  | .bit2L => .cbBit 2 (.reg .l)
  | .bit2MemHL => .cbBit 2 .memHL
  | .bit2A => .cbBit 2 (.reg .a)
  | .bit3B => .cbBit 3 (.reg .b)
  | .bit3C => .cbBit 3 (.reg .c)
  | .bit3D => .cbBit 3 (.reg .d)
  | .bit3E => .cbBit 3 (.reg .e)
  | .bit3H => .cbBit 3 (.reg .h)
  | .bit3L => .cbBit 3 (.reg .l)
  | .bit3MemHL => .cbBit 3 .memHL
  | .bit3A => .cbBit 3 (.reg .a)
  | .bit4B => .cbBit 4 (.reg .b)
  | .bit4C => .cbBit 4 (.reg .c)
  | .bit4D => .cbBit 4 (.reg .d)
  | .bit4E => .cbBit 4 (.reg .e)
  | .bit4H => .cbBit 4 (.reg .h)
  | .bit4L => .cbBit 4 (.reg .l)
  | .bit4MemHL => .cbBit 4 .memHL
  | .bit4A => .cbBit 4 (.reg .a)
  | .bit5B => .cbBit 5 (.reg .b)
  | .bit5C => .cbBit 5 (.reg .c)
  | .bit5D => .cbBit 5 (.reg .d)
  | .bit5E => .cbBit 5 (.reg .e)
  | .bit5H => .cbBit 5 (.reg .h)
  | .bit5L => .cbBit 5 (.reg .l)
  | .bit5MemHL => .cbBit 5 .memHL
  | .bit5A => .cbBit 5 (.reg .a)
  | .bit6B => .cbBit 6 (.reg .b)
  | .bit6C => .cbBit 6 (.reg .c)
  | .bit6D => .cbBit 6 (.reg .d)
  | .bit6E => .cbBit 6 (.reg .e)
  | .bit6H => .cbBit 6 (.reg .h)
  | .bit6L => .cbBit 6 (.reg .l)
  | .bit6MemHL => .cbBit 6 .memHL
  | .bit6A => .cbBit 6 (.reg .a)
  | .bit7B => .cbBit 7 (.reg .b)
  | .bit7C => .cbBit 7 (.reg .c)
  | .bit7D => .cbBit 7 (.reg .d)
  | .bit7E => .cbBit 7 (.reg .e)
  | .bit7H => .cbBit 7 (.reg .h)
  | .bit7L => .cbBit 7 (.reg .l)
  | .bit7MemHL => .cbBit 7 .memHL
  | .bit7A => .cbBit 7 (.reg .a)
  | .res0B => .cbRes 0 (.reg .b)
  | .res0C => .cbRes 0 (.reg .c)
  | .res0D => .cbRes 0 (.reg .d)
  | .res0E => .cbRes 0 (.reg .e)
  | .res0H => .cbRes 0 (.reg .h)
  | .res0L => .cbRes 0 (.reg .l)
  | .res0MemHL => .cbRes 0 .memHL
  | .res0A => .cbRes 0 (.reg .a)
  | .res1B => .cbRes 1 (.reg .b)
  | .res1C => .cbRes 1 (.reg .c)
  | .res1D => .cbRes 1 (.reg .d)
  | .res1E => .cbRes 1 (.reg .e)
  | .res1H => .cbRes 1 (.reg .h)
  | .res1L => .cbRes 1 (.reg .l)
  | .res1MemHL => .cbRes 1 .memHL
  | .res1A => .cbRes 1 (.reg .a)
  | .res2B => .cbRes 2 (.reg .b)
  | .res2C => .cbRes 2 (.reg .c)
  | .res2D => .cbRes 2 (.reg .d)
  | .res2E => .cbRes 2 (.reg .e)
  | .res2H => .cbRes 2 (.reg .h)
  | .res2L => .cbRes 2 (.reg .l)
  | .res2MemHL => .cbRes 2 .memHL
  | .res2A => .cbRes 2 (.reg .a)
  | .res3B => .cbRes 3 (.reg .b)
  | .res3C => .cbRes 3 (.reg .c)
  | .res3D => .cbRes 3 (.reg .d)
  | .res3E => .cbRes 3 (.reg .e)
  | .res3H => .cbRes 3 (.reg .h)
  | .res3L => .cbRes 3 (.reg .l)
  | .res3MemHL => .cbRes 3 .memHL
  | .res3A => .cbRes 3 (.reg .a)
  | .res4B => .cbRes 4 (.reg .b)
  | .res4C => .cbRes 4 (.reg .c)
  | .res4D => .cbRes 4 (.reg .d)
  | .res4E => .cbRes 4 (.reg .e)
  | .res4H => .cbRes 4 (.reg .h)
  | .res4L => .cbRes 4 (.reg .l)
  | .res4MemHL => .cbRes 4 .memHL
  | .res4A => .cbRes 4 (.reg .a)
  | .res5B => .cbRes 5 (.reg .b)
  | .res5C => .cbRes 5 (.reg .c)
  | .res5D => .cbRes 5 (.reg .d)
  | .res5E => .cbRes 5 (.reg .e)
  | .res5H => .cbRes 5 (.reg .h)
  | .res5L => .cbRes 5 (.reg .l)
  | .res5MemHL => .cbRes 5 .memHL
  | .res5A => .cbRes 5 (.reg .a)
  | .res6B => .cbRes 6 (.reg .b)
  | .res6C => .cbRes 6 (.reg .c)
  | .res6D => .cbRes 6 (.reg .d)
  | .res6E => .cbRes 6 (.reg .e)
  | .res6H => .cbRes 6 (.reg .h)
  | .res6L => .cbRes 6 (.reg .l)
  | .res6MemHL => .cbRes 6 .memHL
  | .res6A => .cbRes 6 (.reg .a)
  | .res7B => .cbRes 7 (.reg .b)
  | .res7C => .cbRes 7 (.reg .c)
  | .res7D => .cbRes 7 (.reg .d)
  | .res7E => .cbRes 7 (.reg .e)
  | .res7H => .cbRes 7 (.reg .h)
  | .res7L => .cbRes 7 (.reg .l)
  | .res7MemHL => .cbRes 7 .memHL
  | .res7A => .cbRes 7 (.reg .a)
  | .set0B => .cbSet 0 (.reg .b)
  | .set0C => .cbSet 0 (.reg .c)
  | .set0D => .cbSet 0 (.reg .d)
  | .set0E => .cbSet 0 (.reg .e)
  | .set0H => .cbSet 0 (.reg .h)
  | .set0L => .cbSet 0 (.reg .l)
  | .set0MemHL => .cbSet 0 .memHL
  | .set0A => .cbSet 0 (.reg .a)
  | .set1B => .cbSet 1 (.reg .b)
  | .set1C => .cbSet 1 (.reg .c)
  | .set1D => .cbSet 1 (.reg .d)
  | .set1E => .cbSet 1 (.reg .e)
  | .set1H => .cbSet 1 (.reg .h)
  | .set1L => .cbSet 1 (.reg .l)
  | .set1MemHL => .cbSet 1 .memHL
  | .set1A => .cbSet 1 (.reg .a)
  | .set2B => .cbSet 2 (.reg .b)
  | .set2C => .cbSet 2 (.reg .c)
  | .set2D => .cbSet 2 (.reg .d)
  | .set2E => .cbSet 2 (.reg .e)
  | .set2H => .cbSet 2 (.reg .h)
  | .set2L => .cbSet 2 (.reg .l)
  | .set2MemHL => .cbSet 2 .memHL
  | .set2A => .cbSet 2 (.reg .a)
  | .set3B => .cbSet 3 (.reg .b)
  | .set3C => .cbSet 3 (.reg .c)
  | .set3D => .cbSet 3 (.reg .d)
  | .set3E => .cbSet 3 (.reg .e)
  | .set3H => .cbSet 3 (.reg .h)
  | .set3L => .cbSet 3 (.reg .l)
  | .set3MemHL => .cbSet 3 .memHL
  | .set3A => .cbSet 3 (.reg .a)
  | .set4B => .cbSet 4 (.reg .b)
  | .set4C => .cbSet 4 (.reg .c)
  | .set4D => .cbSet 4 (.reg .d)
  | .set4E => .cbSet 4 (.reg .e)
  | .set4H => .cbSet 4 (.reg .h)
  | .set4L => .cbSet 4 (.reg .l)
  | .set4MemHL => .cbSet 4 .memHL
  | .set4A => .cbSet 4 (.reg .a)
  | .set5B => .cbSet 5 (.reg .b)
  | .set5C => .cbSet 5 (.reg .c)
  | .set5D => .cbSet 5 (.reg .d)
  | .set5E => .cbSet 5 (.reg .e)
  | .set5H => .cbSet 5 (.reg .h)
  | .set5L => .cbSet 5 (.reg .l)
  | .set5MemHL => .cbSet 5 .memHL
  | .set5A => .cbSet 5 (.reg .a)
  | .set6B => .cbSet 6 (.reg .b)
  | .set6C => .cbSet 6 (.reg .c)
  | .set6D => .cbSet 6 (.reg .d)
  | .set6E => .cbSet 6 (.reg .e)
  | .set6H => .cbSet 6 (.reg .h)
  | .set6L => .cbSet 6 (.reg .l)
  | .set6MemHL => .cbSet 6 .memHL
  | .set6A => .cbSet 6 (.reg .a)
  | .set7B => .cbSet 7 (.reg .b)
  | .set7C => .cbSet 7 (.reg .c)
  | .set7D => .cbSet 7 (.reg .d)
  | .set7E => .cbSet 7 (.reg .e)
  | .set7H => .cbSet 7 (.reg .h)
  | .set7L => .cbSet 7 (.reg .l)
  | .set7MemHL => .cbSet 7 .memHL
  | .set7A => .cbSet 7 (.reg .a)

end Sys2Proof
end

