-- ==== Sys2Proof/Machine/Effects.lean ====
section
/-!
DEFINITION. What each form of instruction may change: the registers it writes, the flags it writes (10_state.md R35),
the addresses it stores to, and whether it raises or ends by moving PC; its length (30_encoding.md R175) and its cost
(70_reset_and_hazards.md R550). The addresses are computed with the functions the meanings use. The frame statements
(Certificates/Slice0/Obligations.lean) say that everything else stays. The tables here are transcribed from R35, R175
and R550; no meaning uses them.
-/

namespace Sys2Proof.Machine

/-- The registers a frame speaks of, apart from PC and F. -/
inductive RegName where
  | gp (r : Reg8)
  | sp
  deriving DecidableEq, Repr

/-- The value of a register. -/
def State.regValue (s : State) (r : RegName) : Word :=
  match r with
  | .gp r => (0 : Byte) ++ s.reg r
  | .sp => s.regs.sp

/-- The registers a pair's write changes (R31, R167). -/
def Pair.names : Pair → List RegName
  | .bc => [.gp .b, .gp .c]
  | .de => [.gp .d, .gp .e]
  | .hl => [.gp .h, .gp .l]
  | .sp => [.sp]

/-- The registers a stack pair's write changes, apart from F (R31, R168). -/
def StackPair.names : StackPair → List RegName
  | .bc => [.gp .b, .gp .c]
  | .de => [.gp .d, .gp .e]
  | .hl => [.gp .h, .gp .l]
  | .af => [.gp .a]

/-- The registers an operand's write changes. -/
def Operand8.names : Operand8 → List RegName
  | .reg r => [.gp r]
  | .memHL => []

/-- The destination registers of each form, with HL where it is stepped and SP where the stack is used; CP, BIT and the
stores write none. -/
def Shape.regsWritten (sh : Shape) : List RegName :=
  match sh with
  | .loadReg dst _ => [.gp dst]
  | .loadRegImm dst _ => [.gp dst]
  | .loadRegMem dst => [.gp dst]
  | .loadAccAbs _ => [.gp .a]
  | .loadAccInd _ => [.gp .a]
  | .loadHigh _ => [.gp .a]
  | .loadHighC => [.gp .a]
  | .storeAccStep _ => [.gp .h, .gp .l]
  | .loadAccStep _ => [.gp .a, .gp .h, .gp .l]
  | .loadPairImm p _ => p.names
  | .loadSpHl => [.sp]
  | .pushPair _ => [.sp]
  | .popPair p => .sp :: p.names
  | .aluReg op _ => if op = .cp then [] else [.gp .a]
  | .aluMem op => if op = .cp then [] else [.gp .a]
  | .aluImm op _ => if op = .cp then [] else [.gp .a]
  | .incReg r => [.gp r]
  | .decReg r => [.gp r]
  | .decimalAdjust => [.gp .a]
  | .complementAcc => [.gp .a]
  | .addHl _ => [.gp .h, .gp .l]
  | .incPair p => p.names
  | .decPair p => p.names
  | .addSpDisp _ => [.sp]
  | .loadHlSpDisp _ => [.gp .h, .gp .l]
  | .rotAcc _ => [.gp .a]
  | .cbRot _ o => o.names
  | .cbRes _ o => o.names
  | .cbSet _ o => o.names
  | .callAbs _ => [.sp]
  | .callAbsIf _ _ => [.sp]
  | .ret => [.sp]
  | .retIf _ => [.sp]
  | .reti => [.sp]
  | .restart _ => [.sp]
  | _ => []

/-- What an instruction does to one flag (R35): `-`, `0`, `1` or `*` in the table. -/
inductive FlagEffect where
  | kept
  | zero
  | one
  | computed
  deriving DecidableEq, Repr

/-- A row of the table of R35. -/
structure FlagRow where
  z : FlagEffect
  n : FlagEffect
  h : FlagEffect
  c : FlagEffect
  deriving DecidableEq, Repr

/-- R35: the row of an ALU operation. -/
def AluOp.flagRow (op : AluOp) : FlagRow :=
  match op with
  | .add | .adc => ⟨.computed, .zero, .computed, .computed⟩
  | .sub | .sbc | .cp => ⟨.computed, .one, .computed, .computed⟩
  | .and => ⟨.computed, .zero, .one, .zero⟩
  | .xor | .or => ⟨.computed, .zero, .zero, .zero⟩

/-- R35: the flags each form writes. -/
def Shape.flagRow (sh : Shape) : FlagRow :=
  match sh with
  | .aluReg op _ => op.flagRow
  | .aluMem op => op.flagRow
  | .aluImm op _ => op.flagRow
  | .incReg _ => ⟨.computed, .zero, .computed, .kept⟩
  | .incMem => ⟨.computed, .zero, .computed, .kept⟩
  | .decReg _ => ⟨.computed, .one, .computed, .kept⟩
  | .decMem => ⟨.computed, .one, .computed, .kept⟩
  | .decimalAdjust => ⟨.computed, .kept, .zero, .computed⟩
  | .complementAcc => ⟨.kept, .one, .one, .kept⟩
  | .setCarry => ⟨.kept, .zero, .zero, .one⟩
  | .complementCarry => ⟨.kept, .zero, .zero, .computed⟩
  | .addHl _ => ⟨.kept, .zero, .computed, .computed⟩
  | .addSpDisp _ => ⟨.zero, .zero, .computed, .computed⟩
  | .loadHlSpDisp _ => ⟨.zero, .zero, .computed, .computed⟩
  | .rotAcc _ => ⟨.zero, .zero, .zero, .computed⟩
  | .cbRot op _ => if op = .swap then ⟨.computed, .zero, .zero, .zero⟩ else ⟨.computed, .zero, .zero, .computed⟩
  | .cbBit _ _ => ⟨.computed, .zero, .one, .kept⟩
  | .popPair p =>
    if p = .af then ⟨.computed, .computed, .computed, .computed⟩ else ⟨.kept, .kept, .kept, .kept⟩
  | _ => ⟨.kept, .kept, .kept, .kept⟩

/-- A flag's value before and after is as its entry in the table of R35 says. -/
def FlagEffect.allows (e : FlagEffect) (before after : Bool) : Prop :=
  match e with
  | .kept => after = before
  | .zero => after = false
  | .one => after = true
  | .computed => True

/-- The two addresses `push16` stores to (R13). -/
def pushAddresses (s : State) : List Word := [s.regs.sp - 1, s.regs.sp - 2]

/-- The addresses an operand's write stores to. -/
def Operand8.storeAddresses (o : Operand8) (s : State) : List Word :=
  match o with
  | .reg _ => []
  | .memHL => [s.hl]

/-- The addresses each form stores to from a state, in order. STOP under `halt_until_joypad` clears the divider as a
store to DIV does (R352, R445). -/
def Shape.stores (sh : Shape) (s : State) : List Word :=
  match sh with
  | .storeMemReg _ => [s.hl]
  | .storeMemImm _ => [s.hl]
  | .storeAccAbs w => [w]
  | .storeAccInd p => [s.pair p]
  | .storeHigh n => [highPage n]
  | .storeHighC => [highPage s.regs.c]
  | .storeAccStep _ => [s.hl]
  | .storeSpAbs w => [w, w + 1]
  | .pushPair _ => pushAddresses s
  | .incMem => [s.hl]
  | .decMem => [s.hl]
  | .cbRot _ o => o.storeAddresses s
  | .cbRes _ o => o.storeAddresses s
  | .cbSet _ o => o.storeAddresses s
  | .callAbs _ => pushAddresses s
  | .callAbsIf cc _ => if condHolds cc s.flags then pushAddresses s else []
  | .restart _ => pushAddresses s
  | .stop => if s.params.stopMode = .haltUntilJoypad then [0xFF04] else []
  | _ => []

/-- The form raises the fatal error (R405): an illegal byte, or STOP under `STOP_MODE = fault`. -/
def Shape.raises (sh : Shape) (s : State) : Bool :=
  match sh with
  | .illegal _ => true
  | .stop => decide (s.params.stopMode = .fault)
  | _ => false

/-- The form may set PC to something else than the next instruction's address (44_control.md). -/
def Shape.transfers (sh : Shape) : Bool :=
  match sh with
  | .jumpAbs _ => true
  | .jumpAbsIf _ _ => true
  | .jumpHl => true
  | .jumpRel _ => true
  | .jumpRelIf _ _ => true
  | .callAbs _ => true
  | .callAbsIf _ _ => true
  | .ret => true
  | .retIf _ => true
  | .reti => true
  | .restart _ => true
  | _ => false

/-- The form writes CPU control state other than `wait`, the halt-bug latch and `fatal` (R37-R42). -/
def Shape.writesControl (sh : Shape) : Bool :=
  match sh with
  | .halt => true
  | .stop => true
  | .disableInts => true
  | .enableInts => true
  | .reti => true
  | _ => false

/-- The length in bytes of each form (R175). An illegal byte has no length: decoding stops at it (R178), so it counts as
the one byte fetched; STOP is 2 bytes (R176). -/
def Shape.length (sh : Shape) : Nat :=
  match sh with
  | .stop => 2
  | .loadRegImm _ _ => 2
  | .storeMemImm _ => 2
  | .loadAccAbs _ => 3
  | .storeAccAbs _ => 3
  | .loadHigh _ => 2
  | .storeHigh _ => 2
  | .loadPairImm _ _ => 3
  | .storeSpAbs _ => 3
  | .aluImm _ _ => 2
  | .addSpDisp _ => 2
  | .loadHlSpDisp _ => 2
  | .cbRot _ _ => 2
  | .cbBit _ _ => 2
  | .cbRes _ _ => 2
  | .cbSet _ _ => 2
  | .jumpAbs _ => 3
  | .jumpAbsIf _ _ => 3
  | .jumpRel _ => 2
  | .jumpRelIf _ _ => 2
  | .callAbs _ => 3
  | .callAbsIf _ _ => 3
  | _ => 1

/-- The dots of a conditional form, taken or not. -/
def costIf (cc : Cond) (f : Flags) (taken notTaken : Nat) : Nat := if condHolds cc f then taken else notTaken

/-- The cost of a CB form: register, memory (R294, R550). -/
def Operand8.cost (o : Operand8) (memory : Nat) : Nat :=
  match o with
  | .reg _ => 8
  | .memHL => memory

/-- R550: the dots of each form, row by row of the table; conditional forms look at the flags. A raising form sets no
cost (R355). -/
def Shape.cost (sh : Shape) (f : Flags) : Nat :=
  match sh with
  | .nop | .loadReg _ _ | .aluReg _ _ | .incReg _ | .decReg _ | .rotAcc _ | .decimalAdjust | .complementAcc
  | .setCarry | .complementCarry | .jumpHl | .disableInts | .enableInts | .halt | .stop => 4
  | .loadRegImm _ _ | .loadRegMem _ | .storeMemReg _ | .loadAccInd _ | .storeAccInd _ | .loadHighC | .storeHighC
  | .loadAccStep _ | .storeAccStep _ | .aluMem _ | .aluImm _ _ | .incPair _ | .decPair _ | .addHl _ | .loadSpHl => 8
  | .storeMemImm _ | .incMem | .decMem | .loadHigh _ | .storeHigh _ | .loadPairImm _ _ | .popPair _
  | .loadHlSpDisp _ | .jumpRel _ => 12
  | .loadAccAbs _ | .storeAccAbs _ | .pushPair _ | .jumpAbs _ | .ret | .reti | .restart _ | .addSpDisp _ => 16
  | .storeSpAbs _ => 20
  | .callAbs _ => 24
  | .cbRot _ o => o.cost 16
  | .cbRes _ o => o.cost 16
  | .cbSet _ o => o.cost 16
  | .cbBit _ o => o.cost 12
  | .jumpRelIf cc _ => costIf cc f 12 8
  | .retIf cc => costIf cc f 20 8
  | .jumpAbsIf cc _ => costIf cc f 16 12
  | .callAbsIf cc _ => costIf cc f 24 12
  | .illegal _ => 0

/-- PC past an instruction of `n` bytes (R12, R32), modulo 2^16; a set halt-bug latch holds it back by one (R351). -/
def nextPc (s : State) (n : Nat) : Word :=
  s.regs.pc + BitVec.ofNat 16 n - (if s.ctl.haltBugLatch then 1 else 0)

/-- `s` with the CPU as an instruction leaves it that ends with PC at `pc` and takes `cost` dots (R401, R404). -/
def State.ended (s : State) (pc : Word) (cost : Nat) : State :=
  { s with regs := { s.regs with pc := pc }, ctl := { s.ctl with wait := cost, haltBugLatch := false } }

/-- The flags byte of R33: Z, N, H, C in bits 7, 6, 5, 4 and zeros below. -/
def packFlags (z n h c : Bool) : Byte :=
  BitVec.ofNat 8 (128 * z.toNat + 64 * n.toNat + 32 * h.toNat + 16 * c.toNat)

/-- R167: the table `rp[p]`. -/
def pairTable (p : BitVec 2) : Pair := if p = 0 then .bc else if p = 1 then .de else if p = 2 then .hl else .sp

/-- R168: the table `rp2[p]`. -/
def stackPairTable (p : BitVec 2) : StackPair :=
  if p = 0 then .bc else if p = 1 then .de else if p = 2 then .hl else .af

/-- R169: the table `cc[k]`. -/
def condTable (k : BitVec 2) : Cond := if k = 0 then .nz else if k = 1 then .z else if k = 2 then .nc else .c

/-- R13: the state after `push16(v)`: the high byte at SP - 1 first, then the low byte at SP - 2. -/
def afterPush (v : Word) (s : State) : State :=
  let t := writeByte (writeByte s (s.regs.sp - 1) (v.extractLsb' 8 8)) (s.regs.sp - 2) (v.extractLsb' 0 8)
  { t with regs := { t.regs with sp := s.regs.sp - 2 } }

/-- R13: the value `pop16()` returns: the low byte at SP, the high byte at SP + 1. -/
def poppedWord (s : State) : Word := readByte s (s.regs.sp + 1) ++ readByte s s.regs.sp

/-- The bytes are one whole instruction, and running it from `s` ends in `t`. -/
def runsTo (bytes : List Byte) (s t : State) : Prop := ∃ i, decode bytes = .instr i [] ∧ exec i s = .next t

/-- R239: the three forms of the ALU operation of index `y`: the instruction's bytes, its operand value and its cost. -/
def aluForm (y : BitVec 3) (s : State) (bytes : List Byte) (v : Byte) (cost : Nat) : Prop :=
  (∃ z r, r8Table z = .reg r ∧ bytes = [opcodeByte 2 y z] ∧ v = s.reg r ∧ cost = 4) ∨
  (bytes = [opcodeByte 2 y 6] ∧ v = readByte s s.hl ∧ cost = 8) ∨
  (∃ d, bytes = [opcodeByte 3 y 6, d] ∧ v = d ∧ cost = 8)

/-- R294: the operand `r8[z]` of a CB instruction: the value read, what writing a result does, and the cost of a form
that writes. -/
def cbForm (z : BitVec 3) (s : State) (v : Byte) (write : Byte → State) (cost : Nat) : Prop :=
  (∃ r, r8Table z = .reg r ∧ v = s.reg r ∧ (∀ b, write b = s.setReg r b) ∧ cost = 8) ∨
  (r8Table z = .memHL ∧ v = readByte s s.hl ∧ (∀ b, write b = writeByte s s.hl b) ∧ cost = 16)

end Sys2Proof.Machine
end

