-- ==== Sys2Proof/Machine/HostCalls.lean ====
section
/-!
DEFINITION. The host's calls (60_exceptions.md R416) and what it may read (R52, R95, R146, R417). They happen between
dots, never inside one (R400), so they are operations beside `step`, and `drive` interleaves them with dots.
-/

namespace Sys2Proof.Machine

/-- Set one button's state. -/
def Buttons.set (bs : Buttons) (k : Button) (v : Bool) : Buttons :=
  match k with
  | .up => { bs with up := v }
  | .down => { bs with down := v }
  | .left => { bs with left := v }
  | .right => { bs with right := v }
  | .a => { bs with a := v }
  | .b => { bs with b := v }
  | .select => { bs with select := v }
  | .start => { bs with start := v }

/-- Whether a button is pressed. -/
def Buttons.isDown (bs : Buttons) : Button → Bool
  | .up => bs.up
  | .down => bs.down
  | .left => bs.left
  | .right => bs.right
  | .a => bs.a
  | .b => bs.b
  | .select => bs.select
  | .start => bs.start

/-- `press(b)` (R416): every call requests the joypad interrupt and ends a STOP (R352, decision D50). -/
def press (k : Button) (s : State) : State :=
  (request 4 { s with io := { s.io with buttons := s.io.buttons.set k true } }).setStopped false

/-- `release(b)` (R416): no interrupt. -/
def release (k : Button) (s : State) : State :=
  { s with io := { s.io with buttons := s.io.buttons.set k false } }

/-- What the driver may do between two dots, or a dot itself (R400, R416). -/
inductive HostEvent where
  | dot
  | press (k : Button)
  | release (k : Button)
  deriving DecidableEq, Repr

/-- One event of the driver. -/
def hostEvent (e : HostEvent) (s : State) : Result :=
  match e with
  | .dot => dot s
  | .press k => .next (press k s)
  | .release k => .next (release k s)

/-- A session's events in order, stopping at the first fault or refusal (R417, observation 1). -/
def drive (es : List HostEvent) (s : State) : Result :=
  match es with
  | [] => .next s
  | e :: rest =>
    match hostEvent e s with
    | .next t => drive rest t
    | .fault r => .fault r
    | .refused r => .refused r

/-- The colour the display shows for a pixel: `THEME[shade]` (R52, R498). -/
def displayColour (s : State) (x y : Nat) : Nat :=
  let sh := pixelAt s x y
  if sh = 0 then s.params.theme.shade0
  else if sh = 1 then s.params.theme.shade1
  else if sh = 2 then s.params.theme.shade2
  else s.params.theme.shade3

/-- The audio sink's raw register block, 0xFF10..0xFF3F (R95, R416). -/
def audioBlock (s : State) : List Byte :=
  (List.range 48).map (fun i => Store.read s.mem (0xFF10 + i))

/-- The cartridge RAM that the host's backing store keeps (R146): its bytes by offset. -/
def savedRam (s : State) : List Host.Cell := s.cart.ram

end Sys2Proof.Machine
end

