-- ==== Sys2Proof/Safety.lean ====
section
/-!
DEFINITION. The terms claims are stated in: when a state is at a boundary, has faulted or has come to the quiescent
halt (60_exceptions.md R402, R405, R417), and the invariant of the state's bounds that 10_state.md R34-R58 give.
-/

namespace Sys2Proof.Machine

/-- The next dot is an instruction boundary (R402): `wait` is 0 then. -/
def atBoundary (s : State) : Bool := decide (s.ctl.wait ≤ 1)

/-- The core has halted for good (R405). -/
def faulted (s : State) : Bool := s.ctl.fatal.isSome

/-- The next dot fetches an instruction (R402, R408): a boundary, not stopped, no interrupt to service, and not halted or
about to wake. -/
def fetchesNext (s : State) : Bool :=
  !faulted s && atBoundary s && !s.ctl.stopped && !(s.ctl.ime && anyEligible s.intr) &&
    (!s.ctl.halted || anyEligible s.intr)

/-- The state in which the instruction of that dot executes: counted down to the boundary and woken (R402). -/
def fetchState (s : State) : State := (s.setWait 0).setHalted false

/-- The quiescent halt (R417, observation 2). -/
def quiescentHalt (s : State) : Bool :=
  !faulted s && atBoundary s && s.ctl.halted && decide (s.intr.enabled = 0) && !s.ctl.stopped

/-- A byte that raises `UnimplementedOpcode` when fetched as an opcode (R178, R352, R355). -/
def raisingByte (p : Params) (b : Byte) : Bool :=
  decide (b ∈ [0xD3, 0xDB, 0xDD, 0xE3, 0xE4, 0xEB, 0xEC, 0xED, 0xF4, 0xFC, 0xFD]) ||
    (decide (b = 0x10) && decide (p.stopMode = .fault))

/-- Every key of a store satisfies a test. -/
def keysOk {n : Nat} (ok : Nat → Bool) (st : List (Nat × BitVec n)) : Bool := st.all (fun c => ok c.1)

/-- The lengths R134 gives cartridge RAM. -/
def ramLengths : List Nat := [0, 2048, 8192, 32768, 131072, 65536]

/-- The invariant of the CPU (R34, R40, R42, R351, R405). -/
structure CpuInv (s : State) : Prop where
  /-- R34 -/
  flagsLow : s.regs.f &&& 0x0F = 0
  /-- R40 -/
  waitBound : s.ctl.wait ≤ 24
  /-- R42 -/
  stoppedMode : s.ctl.stopped = true → s.params.stopMode = .haltUntilJoypad
  /-- R351 -/
  latchMode : s.ctl.haltBugLatch = true → s.params.haltBug = .doubleRead
  /-- R405: the core faults at a boundary and on a raising byte -/
  fatalWait : s.ctl.fatal.isSome = true → s.ctl.wait = 0
  fatalByte : ∀ e, s.ctl.fatal = some e → raisingByte s.params e.byte = true

/-- The invariant of the timer and the PPU (R47, R49, R471, R486). -/
structure UnitInv (s : State) : Prop where
  /-- R47 -/
  taccBound : s.timer.tacc < 1024
  /-- R49, R471 -/
  modeDotBound : s.ppu.modeDot < modeLength s.ppu.mode
  /-- R471: lines 0..143 outside v-blank, 144..153 in it -/
  lyVisible : s.ppu.mode ≠ .vblank → s.ppu.ly < 144
  lyVblank : s.ppu.mode = .vblank → 144 ≤ s.ppu.ly ∧ s.ppu.ly ≤ 153
  /-- R472: the line is composed exactly from its pixel-transfer on -/
  notComposed : s.ppu.mode = .oamSearch → s.ppu.composed = false
  isComposed : s.ppu.mode = .pixelTransfer → s.ppu.composed = true
  /-- R486: an LCD seen off stands at line 0, h-blank, dot 0 -/
  offState : s.ppu.lcdOffSeen = true →
    s.ppu.mode = .hblank ∧ s.ppu.modeDot = 0 ∧ s.ppu.ly = 0 ∧ s.ppu.composed = false

/-- The invariant of the memories: canonical form, and no key outside what the spec gives (R51-R55, R58). -/
structure MemInv (s : State) : Prop where
  memWf : Memory.wf s.mem = true
  memKeys : keysOk plainCell s.mem = true
  pixelsWf : Store.wf s.pixels = true
  pixelKeys : keysOk (fun k => decide (k < pixelCount)) s.pixels = true
  romWf : Memory.wf s.cart.rom = true
  romKeys : keysOk (fun k => decide (k < s.cart.romLen)) s.cart.rom = true
  ramWf : Memory.wf s.cart.ram = true
  ramKeys : keysOk (fun k => decide (k < s.cart.ramLen)) s.cart.ram = true
  bootWf : Memory.wf s.params.bootRom = true
  bootKeys : keysOk (fun k => decide (k < 256)) s.params.bootRom = true
  /-- R131, R134 -/
  romLength : minImageLen ≤ s.cart.romLen
  ramLength : s.cart.ramLen ∈ ramLengths
  romOnlyRam : s.cart.family = .romOnly → s.cart.ramLen = 0
  /-- R137: the low ROM-bank register is never 0 -/
  romBankLow : s.cart.romLo5 ≠ 0

/-- The invariant of the core: what every reachable state satisfies. -/
structure Inv (s : State) : Prop where
  cpu : CpuInv s
  units : UnitInv s
  mems : MemInv s

end Sys2Proof.Machine
end

