-- ==== Sys2Proof/Certificates/Slice0/Obligations.lean ====
section
/-!
DEFINITION. The statements for the provers. Each docstring names the rules of spec/ that the statement formalises. The
statements about instructions speak of bytes (`runsTo`: the bytes decode to one instruction, and `exec` of it answers
the next state written out), or of every constructor of `Instr` through its form (`Instr.shape`). A next state is
written as the old state with the fields the rule changes; `State.ended` adds PC, `wait` and the spent halt-bug latch.
Where a statement speaks of states with the halt-bug latch set (`nextPc`, `State.ended`), it follows log 12, the model's
reading of R351; with the latch clear, as always under `HALT_BUG = none`, it is the rule's own text.
-/

section
open Sys2Proof Sys2Proof.Machine

/-! ### Encoding and decoding -/

/-- 30_encoding.md R160-R177. Decoding the encoding of any well-formed instruction gives it back, whatever bytes
follow. The encoder composes bytes from the fields x, y, z; the decoder looks bytes up in the opcode table. -/
def Obligations.DecodeOfEncodeIsTheInstruction : Prop :=
  ∀ (i : Instr) (rest : List Byte), i.wellFormed = true → decode (encode i ++ rest) = .instr i rest

/-- 30_encoding.md R177-R180. What the decoder reads is well-formed, and its encoding is the bytes it was read from:
one meaning a word, and no bit of a word is dropped. -/
def Obligations.EncodeOfDecodeIsTheBytes : Prop :=
  ∀ (bytes : List Byte) (i : Instr) (rest : List Byte), decode bytes = .instr i rest →
    i.wellFormed = true ∧ encode i ++ rest = bytes

/-- 30_encoding.md R175, R178. The first byte fixes how many bytes an instruction takes: 3, 2 or 1, by the lists of
R175; decoding stops at an illegal byte, which gives the form that raises. -/
def Obligations.FirstByteFixesLength : Prop :=
  ∀ (a b c : Byte) (rest : List Byte), ∃ i,
    decode (a :: b :: c :: rest) =
      .instr i (if a ∈ ([0x01, 0x11, 0x21, 0x31, 0x08, 0xC2, 0xC3, 0xC4, 0xCA, 0xCC, 0xCD, 0xD2, 0xD4, 0xDA, 0xDC,
                         0xEA, 0xFA] : List Byte) then rest
                else if a ∈ ([0x06, 0x0E, 0x16, 0x1E, 0x26, 0x2E, 0x36, 0x3E, 0x10, 0x18, 0x20, 0x28, 0x30, 0x38,
                              0xC6, 0xCE, 0xD6, 0xDE, 0xE6, 0xEE, 0xF6, 0xFE, 0xE0, 0xF0, 0xE8, 0xF8, 0xCB] :
                              List Byte) then c :: rest
                else b :: c :: rest) ∧
    (a ∈ ([0xD3, 0xDB, 0xDD, 0xE3, 0xE4, 0xEB, 0xEC, 0xED, 0xF4, 0xFC, 0xFD] : List Byte) ↔ i.shape = .illegal a)

/-- 30_encoding.md, sample words written out from the encodings: one of each family, bit by bit. -/
def Obligations.SampleWordsDecode : Prop :=
  decode [0b01_111_000] = .instr .ldAB [] ∧
  decode [0b00_111_110, 0x7F] = .instr (.ldAd8 0x7F) [] ∧
  decode [0b00_100_001, 0x34, 0x12] = .instr (.ldHLd16 0x1234) [] ∧
  decode [0b11_110_101] = .instr .pushAF [] ∧
  decode [0b10_011_110] = .instr .sbcAMemHL [] ∧
  decode [0b00_110_100] = .instr .incMemHL [] ∧
  decode [0b00_101_001] = .instr .addHLHL [] ∧
  decode [0b11_101_000, 0xFF] = .instr (.addSPe8 0xFF) [] ∧
  decode [0b00_010_111] = .instr .rla [] ∧
  decode [0xCB, 0b01_111_100] = .instr .bit7H [] ∧
  decode [0xCB, 0b00_110_110] = .instr .swapMemHL [] ∧
  decode [0b11_011_100, 0x00, 0x40] = .instr (.callCA16 0x4000) [] ∧
  decode [0b11_111_111] = .instr .rst38 [] ∧
  decode [0b01_110_110] = .instr .halt [] ∧
  decode [0b11_011_101] = .instr .illegalDD []

/-- 30_encoding.md R162, R177. The row "PREFIX CB" of the opcode table: its second byte `c` names the instruction that
the two bytes 0xCB, `c` decode to, for all 256 values of `c`. That the row is a constructor with that instruction's meaning
is the model's reading (log 7). -/
def Obligations.PrefixRowRunsTheCbInstruction : Prop :=
  ∀ (c : Byte) (rest : List Byte), ∃ i, decode (0xCB :: c :: rest) = .instr i rest ∧
    ∀ s, exec (.prefixCB c) s = exec i s

/-! ### One step -/

/-- 60_exceptions.md R400-R404, 30_encoding.md R180, 45_system.md R351. Where the next dot fetches, a step runs the
instruction decoded from the bytes at PC, in the state counted down to the boundary and woken from HALT; then EI's
deferred write; then the PPU and the timer. The model's own readings: an instruction that raised leaves the raising state
as a next state, without the PPU and the timer (log 5) and without EI's write (log 13); with the halt-bug latch set, the
byte after the opcode comes from the opcode's own address (log 12). -/
def Obligations.StepRunsTheDecodedInstruction : Prop :=
  ∀ (s t : State) (i : Instr) (rest : List Byte), fetchesNext s = true → decode (fetchBytes s) = .instr i rest →
    exec i ({ s with ctl := { s.ctl with wait := 0, halted := false } }) = .next t →
    (fetchBytes s = if s.ctl.haltBugLatch then [readByte s s.regs.pc, readByte s s.regs.pc, readByte s (s.regs.pc + 1)]
      else [readByte s s.regs.pc, readByte s (s.regs.pc + 1), readByte s (s.regs.pc + 2)]) ∧
    step s =
      .next (if t.ctl.fatal.isSome then t
        else timerDot (ppuDot (if s.ctl.eiPending && t.ctl.eiPending
          then { t with ctl := { t.ctl with ime := true, eiPending := false } } else t)))

/-! ### Every instruction -/

/-- 60_exceptions.md R401, R405, 70_reset_and_hazards.md R550. Every instruction answers a next state in every state.
One that does not raise takes the dots of the table of R550, a multiple of 4 between 4 and 24; an interrupt service takes
20. That one that raises (an illegal byte, STOP under `STOP_MODE = fault`) answers a next state too, with `fatal` set and
no cost, is the model's reading of R405 (log 5). -/
def Obligations.EveryInstructionCompletes : Prop :=
  (∀ (i : Instr) (s : State), ∃ t, exec i s = .next t ∧
    (i.shape.raises s = false → t.ctl.fatal = s.ctl.fatal ∧ t.ctl.wait = i.shape.cost s.flags ∧
      t.ctl.wait % 4 = 0 ∧ 4 ≤ t.ctl.wait ∧ t.ctl.wait ≤ 24) ∧
    (i.shape.raises s = true → t.ctl.fatal.isSome = true ∧ t.ctl.wait = s.ctl.wait)) ∧
  ∀ s, (takeInterrupt s).ctl.wait = 20

/-- Files 40-45: the frame of the registers. Every 8-bit register but F, and SP, is unchanged unless it is a
destination of the instruction's form: HL where it is stepped, SP where the stack is used. -/
def Obligations.OnlyDestinationRegistersChange : Prop :=
  ∀ (i : Instr) (s t : State) (r : RegName), exec i s = .next t → r ∉ i.shape.regsWritten →
    t.regValue r = s.regValue r

/-- 10_state.md R34, R35. Each flag is unchanged, forced to 0, forced to 1 or computed, as the table of R35 says for
the instruction's group, and the low nibble of F stays 0. -/
def Obligations.FlagsChangeAsTheTableSays : Prop :=
  ∀ (i : Instr) (s t : State), exec i s = .next t →
    i.shape.flagRow.z.allows s.flags.z t.flags.z ∧ i.shape.flagRow.n.allows s.flags.n t.flags.n ∧
    i.shape.flagRow.h.allows s.flags.h t.flags.h ∧ i.shape.flagRow.c.allows s.flags.c t.flags.c ∧
    (s.regs.f &&& 0x0F = 0 → t.regs.f &&& 0x0F = 0)

/-- 20_memory.md R84, R85, R103: the frame of memory. `Shape.stores` computes the addresses a form stores to, with the
functions its meaning uses; every address that none of those stores can reach reads as before. For a form that stores
nothing, every address of the 64 KiB space reads as before. -/
def Obligations.OnlyStoredAddressesChange : Prop :=
  ∀ (i : Instr) (s t : State) (b : Word), exec i s = .next t →
    (∀ a ∈ i.shape.stores s, storeReaches a b = false) → readByte t b = readByte s b

/-- 20_memory.md R112, 00_scope.md R11. An instruction that stores nothing changes nothing outside the CPU: not one
field of the timer, the PPU, the interrupt controller, the I/O registers, the cartridge or the memories. -/
def Obligations.InstructionsWithoutStoresTouchTheCpuOnly : Prop :=
  ∀ (i : Instr) (s t : State), exec i s = .next t → i.shape.stores s = [] →
    t = { s with regs := t.regs, ctl := t.ctl }

/-- 10_state.md R37-R42. IME, `ei_pending`, `halted` and `stopped` are unchanged by every instruction but HALT, STOP, DI,
EI and RETI; no instruction that does not raise changes `fatal`; the halt-bug latch is spent by every instruction but
HALT (log 12). -/
def Obligations.OnlySystemInstructionsChangeControl : Prop :=
  ∀ (i : Instr) (s t : State), exec i s = .next t →
    (i.shape.writesControl = false → t.ctl.ime = s.ctl.ime ∧ t.ctl.eiPending = s.ctl.eiPending ∧
      t.ctl.halted = s.ctl.halted ∧ t.ctl.stopped = s.ctl.stopped) ∧
    (i.shape.raises s = false → t.ctl.fatal = s.ctl.fatal) ∧
    (i.shape ≠ .halt → t.ctl.haltBugLatch = false)

/-- 10_state.md R60, 61_timer.md R443, R445, R446, 62_ppu.md R481, 21_cartridge.md R136-R139. The frame of the state
that has no address to read: no instruction moves the mode machine, the coincidence bit, the pixels or the timer's
accumulator; the divider changes only by a store to DIV, to 0; the bank registers only by a store below 0x8000. -/
def Obligations.InstructionsLeaveHiddenUnitStateAlone : Prop :=
  ∀ (i : Instr) (s t : State), exec i s = .next t →
    t.pixels = s.pixels ∧ t.timer.tacc = s.timer.tacc ∧ t.ppu.mode = s.ppu.mode ∧ t.ppu.modeDot = s.ppu.modeDot ∧
    t.ppu.ly = s.ppu.ly ∧ t.ppu.composed = s.ppu.composed ∧ t.ppu.lcdOffSeen = s.ppu.lcdOffSeen ∧
    t.ppu.statLyc = s.ppu.statLyc ∧
    (t.timer.div16 = s.timer.div16 ∨ 0xFF04 ∈ i.shape.stores s ∧ t.timer.div16 = 0) ∧
    ((∀ a ∈ i.shape.stores s, 0x8000 ≤ a.toNat) → t.cart.romLo5 = s.cart.romLo5 ∧ t.cart.bankHi2 = s.cart.bankHi2 ∧
      t.cart.bankMode = s.cart.bankMode ∧ t.cart.ramEnable = s.cart.ramEnable)

/-! ### Loads, stores and the stack -/

/-- 40_load.md R200-R202, 30_encoding.md R166: the table `r8` and its registers; then LD r8,r8'; LD r8,d8; LD r8,(HL), for
every destination and source of the table. -/
def Obligations.RegisterLoads : Prop :=
  (∀ (s : State) (d : Byte),
    let put (r : Regs) : State := { s with regs := r }
    ([0, 1, 2, 3, 4, 5, 6, 7] : List (BitVec 3)).map r8Table =
      [.reg .b, .reg .c, .reg .d, .reg .e, .reg .h, .reg .l, .memHL, .reg .a] ∧
    (s.reg .b = s.regs.b ∧ s.reg .c = s.regs.c ∧ s.reg .d = s.regs.d ∧ s.reg .e = s.regs.e ∧ s.reg .h = s.regs.h ∧
      s.reg .l = s.regs.l ∧ s.reg .a = s.regs.a) ∧
    s.setReg .b d = put { s.regs with b := d } ∧ s.setReg .c d = put { s.regs with c := d } ∧
    s.setReg .d d = put { s.regs with d := d } ∧ s.setReg .e d = put { s.regs with e := d } ∧
    s.setReg .h d = put { s.regs with h := d } ∧ s.setReg .l d = put { s.regs with l := d } ∧
    s.setReg .a d = put { s.regs with a := d }) ∧
  ∀ (s : State) (y z : BitVec 3) (dst src : Reg8) (d : Byte), r8Table y = .reg dst →
    (r8Table z = .reg src → runsTo [opcodeByte 1 y z] s ((s.setReg dst (s.reg src)).ended (nextPc s 1) 4)) ∧
    runsTo [opcodeByte 0 y 6, d] s ((s.setReg dst d).ended (nextPc s 2) 8) ∧
    runsTo [opcodeByte 1 y 6] s ((s.setReg dst (readByte s s.hl)).ended (nextPc s 1) 8)

/-- 40_load.md R207, R209, R212, R214, R218, R219: the loads of A. Stepping HL is modulo 2^16. -/
def Obligations.AccumulatorLoads : Prop :=
  ∀ (s : State) (d lo hi : Byte),
    runsTo [0xFA, lo, hi] s ((s.setReg .a (readByte s (hi ++ lo))).ended (nextPc s 3) 16) ∧
    runsTo [0x0A] s ((s.setReg .a (readByte s (s.regs.b ++ s.regs.c))).ended (nextPc s 1) 8) ∧
    runsTo [0x1A] s ((s.setReg .a (readByte s (s.regs.d ++ s.regs.e))).ended (nextPc s 1) 8) ∧
    runsTo [0xF0, d] s ((s.setReg .a (readByte s (0xFF00 + d.zeroExtend 16))).ended (nextPc s 2) 12) ∧
    runsTo [0xF2] s ((s.setReg .a (readByte s (0xFF00 + s.regs.c.zeroExtend 16))).ended (nextPc s 1) 8) ∧
    runsTo [0x2A] s (((s.setReg .a (readByte s s.hl)).setHl (s.hl + 1)).ended (nextPc s 1) 8) ∧
    runsTo [0x3A] s (((s.setReg .a (readByte s s.hl)).setHl (s.hl - 1)).ended (nextPc s 1) 8)

/-- 40_load.md R203, R204, R208, R210, R213, R215, R216, R217: the stores of one byte. -/
def Obligations.ByteStores : Prop :=
  ∀ (s : State) (z : BitVec 3) (src : Reg8) (d lo hi : Byte),
    (r8Table z = .reg src → runsTo [opcodeByte 1 6 z] s ((writeByte s s.hl (s.reg src)).ended (nextPc s 1) 8)) ∧
    runsTo [0x36, d] s ((writeByte s s.hl d).ended (nextPc s 2) 12) ∧
    runsTo [0xEA, lo, hi] s ((writeByte s (hi ++ lo) s.regs.a).ended (nextPc s 3) 16) ∧
    runsTo [0x02] s ((writeByte s (s.regs.b ++ s.regs.c) s.regs.a).ended (nextPc s 1) 8) ∧
    runsTo [0x12] s ((writeByte s (s.regs.d ++ s.regs.e) s.regs.a).ended (nextPc s 1) 8) ∧
    runsTo [0xE0, d] s ((writeByte s (0xFF00 + d.zeroExtend 16) s.regs.a).ended (nextPc s 2) 12) ∧
    runsTo [0xE2] s ((writeByte s (0xFF00 + s.regs.c.zeroExtend 16) s.regs.a).ended (nextPc s 1) 8) ∧
    runsTo [0x22] s (((writeByte s s.hl s.regs.a).setHl (s.hl + 1)).ended (nextPc s 1) 8) ∧
    runsTo [0x32] s (((writeByte s s.hl s.regs.a).setHl (s.hl - 1)).ended (nextPc s 1) 8)

/-- 10_state.md R31, 30_encoding.md R167, 40_load.md R220-R222: the table `rr`, the pairs and their halves; LD rr,d16;
LD SP,HL; LD (a16),SP, low byte first, the second address modulo 2^16. -/
def Obligations.PairLoads : Prop :=
  ∀ (s : State) (lo hi : Byte),
    let put (r : Regs) : State := { s with regs := r }
    ([0, 1, 2, 3] : List (BitVec 2)).map pairTable = [.bc, .de, .hl, .sp] ∧
    (s.pair .bc = s.regs.b ++ s.regs.c ∧ s.pair .de = s.regs.d ++ s.regs.e ∧ s.pair .hl = s.regs.h ++ s.regs.l ∧
      s.hl = s.regs.h ++ s.regs.l ∧ s.pair .sp = s.regs.sp) ∧
    (s.setPair .bc (hi ++ lo) = put { s.regs with b := hi, c := lo } ∧
      s.setPair .de (hi ++ lo) = put { s.regs with d := hi, e := lo } ∧
      s.setPair .hl (hi ++ lo) = put { s.regs with h := hi, l := lo } ∧ s.setHl (hi ++ lo) = s.setPair .hl (hi ++ lo) ∧
      s.setPair .sp (hi ++ lo) = put { s.regs with sp := hi ++ lo }) ∧
    (∀ p : BitVec 2, runsTo [BitVec.ofNat 8 (0x01 + 16 * p.toNat), lo, hi] s
      ((s.setPair (pairTable p) (hi ++ lo)).ended (nextPc s 3) 12)) ∧
    runsTo [0xF9] s ((s.setSp s.hl).ended (nextPc s 1) 8) ∧
    runsTo [0x08, lo, hi] s
      ((writeByte (writeByte s (hi ++ lo) (s.regs.sp.extractLsb' 0 8)) ((hi ++ lo) + 1)
        (s.regs.sp.extractLsb' 8 8)).ended (nextPc s 3) 20)

/-- 10_state.md R31, 30_encoding.md R168, 40_load.md R223-R225, 00_scope.md R13: the table of the stack pairs and
their halves; PUSH and POP of each; POP AF masks the popped low byte with 0xF0. SP moves modulo 2^16. -/
def Obligations.PushAndPop : Prop :=
  ∀ (s : State) (p : BitVec 2),
    ([0, 1, 2, 3] : List (BitVec 2)).map stackPairTable = [.bc, .de, .hl, .af] ∧
    (s.stackPair .bc = s.regs.b ++ s.regs.c ∧ s.stackPair .de = s.regs.d ++ s.regs.e ∧
      s.stackPair .hl = s.regs.h ++ s.regs.l ∧ s.stackPair .af = s.regs.a ++ s.regs.f ∧
      ∀ w, s.setStackPair .bc w = s.setPair .bc w ∧ s.setStackPair .de w = s.setPair .de w ∧
        s.setStackPair .hl w = s.setPair .hl w) ∧
    runsTo [BitVec.ofNat 8 (0xC5 + 16 * p.toNat)] s
      ((afterPush (s.stackPair (stackPairTable p)) s).ended (nextPc s 1) 16) ∧
    (p ≠ 3 → runsTo [BitVec.ofNat 8 (0xC1 + 16 * p.toNat)] s
      (((s.setSp (s.regs.sp + 2)).setStackPair (stackPairTable p) (poppedWord s)).ended (nextPc s 1) 12)) ∧
    runsTo [0xF1] s
      (({ s with regs := { s.regs with a := readByte s (s.regs.sp + 1), f := readByte s s.regs.sp &&& 0xF0,
                                       sp := s.regs.sp + 2 } }).ended (nextPc s 1) 12)

/-! ### Arithmetic and logic -/

/-- 41_alu8.md R239-R241: ADD and ADC in their three forms, in exact arithmetic. -/
def Obligations.Additions : Prop :=
  ∀ (s : State) (bytes : List Byte) (v : Byte) (cost : Nat),
    let a := s.regs.a.toNat
    let k := s.flags.c.toNat
    (aluForm 0 s bytes v cost → runsTo bytes s
      (({ s with regs := { s.regs with
          a := BitVec.ofNat 8 (a + v.toNat)
          f := packFlags (decide ((a + v.toNat) % 256 = 0)) false (decide (a % 16 + v.toNat % 16 > 0xF))
                 (decide (a + v.toNat > 0xFF)) } }).ended (nextPc s bytes.length) cost)) ∧
    (aluForm 1 s bytes v cost → runsTo bytes s
      (({ s with regs := { s.regs with
          a := BitVec.ofNat 8 (a + v.toNat + k)
          f := packFlags (decide ((a + v.toNat + k) % 256 = 0)) false (decide (a % 16 + v.toNat % 16 + k > 0xF))
                 (decide (a + v.toNat + k > 0xFF)) } }).ended (nextPc s bytes.length) cost))

/-- 41_alu8.md R239, R242, R243, R247: SUB, SBC and CP in their three forms, in exact integer arithmetic; CP leaves
A. -/
def Obligations.SubtractionsAndCompare : Prop :=
  ∀ (s : State) (bytes : List Byte) (v : Byte) (cost : Nat),
    let a := s.regs.a.toNat
    let n := v.toNat
    let k := s.flags.c.toNat
    (aluForm 2 s bytes v cost → runsTo bytes s
      (({ s with regs := { s.regs with
          a := BitVec.ofInt 8 ((a : Int) - n)
          f := packFlags (decide (((a : Int) - n) % 256 = 0)) true (decide (a % 16 < n % 16)) (decide (a < n)) } }).ended
        (nextPc s bytes.length) cost)) ∧
    (aluForm 3 s bytes v cost → runsTo bytes s
      (({ s with regs := { s.regs with
          a := BitVec.ofInt 8 ((a : Int) - n - k)
          f := packFlags (decide (((a : Int) - n - k) % 256 = 0)) true (decide (a % 16 < n % 16 + k))
                 (decide (a < n + k)) } }).ended (nextPc s bytes.length) cost)) ∧
    (aluForm 7 s bytes v cost → runsTo bytes s
      (({ s with regs := { s.regs with
          f := packFlags (decide (((a : Int) - n) % 256 = 0)) true (decide (a % 16 < n % 16)) (decide (a < n)) } }).ended
        (nextPc s bytes.length) cost))

/-- 41_alu8.md R239, R244-R246: AND forces H to 1, XOR and OR force it to 0, all three force C to 0. -/
def Obligations.LogicOperations : Prop :=
  ∀ (s : State) (bytes : List Byte) (v r : Byte) (y : BitVec 3) (h : Bool) (cost : Nat),
    (y = 4 ∧ h = true ∧ (∀ j < 8, r.getLsbD j = (s.regs.a.getLsbD j && v.getLsbD j)) ∨
     y = 5 ∧ h = false ∧ (∀ j < 8, r.getLsbD j = Bool.xor (s.regs.a.getLsbD j) (v.getLsbD j)) ∨
     y = 6 ∧ h = false ∧ (∀ j < 8, r.getLsbD j = (s.regs.a.getLsbD j || v.getLsbD j))) →
    aluForm y s bytes v cost → runsTo bytes s
      (({ s with regs := { s.regs with a := r, f := packFlags (decide (r.toNat = 0)) false h false } }).ended
        (nextPc s bytes.length) cost)

/-- 41_alu8.md R248-R251: INC and DEC of a register and of the byte at HL; C is kept. -/
def Obligations.IncrementsAndDecrements : Prop :=
  ∀ (s : State) (y : BitVec 3) (r : Reg8), r8Table y = .reg r →
    let inc (o : Byte) : Byte := packFlags (decide ((o.toNat + 1) % 256 = 0)) false (decide (o.toNat % 16 = 15)) s.flags.c
    let dec (o : Byte) : Byte := packFlags (decide (o.toNat = 1)) true (decide (o.toNat % 16 = 0)) s.flags.c
    let m := readByte s s.hl
    runsTo [opcodeByte 0 y 4] s
      (({ s.setReg r (s.reg r + 1) with
          regs := { (s.setReg r (s.reg r + 1)).regs with f := inc (s.reg r) } }).ended (nextPc s 1) 4) ∧
    runsTo [opcodeByte 0 y 5] s
      (({ s.setReg r (s.reg r - 1) with
          regs := { (s.setReg r (s.reg r - 1)).regs with f := dec (s.reg r) } }).ended (nextPc s 1) 4) ∧
    runsTo [0x34] s
      (({ writeByte s s.hl (m + 1) with regs := { s.regs with f := inc m } }).ended (nextPc s 1) 12) ∧
    runsTo [0x35] s
      (({ writeByte s s.hl (m - 1) with regs := { s.regs with f := dec m } }).ended (nextPc s 1) 12)

/-- 41_alu8.md R252-R255, 10_state.md R33: the byte that the four flags make up; DAA, by the rule's own steps on integers
(`hi` says whether the high adjustment of the add branch is applied); CPL, SCF and CCF. -/
def Obligations.AccumulatorAndFlagOperations : Prop :=
  ∀ (s : State),
    let a : Int := s.regs.a.toNat
    let hi : Bool := s.flags.c || decide (a > 0x99)
    let up : Int := if hi then a + 0x60 else a
    let add : Int := if s.flags.h = true ∨ up % 16 > 9 then up + 0x06 else up
    let down : Int := if s.flags.c then a - 0x60 else a
    let sub : Int := if s.flags.h then down - 0x06 else down
    let r : Int := if s.flags.n then sub else add
    let out (x f : Byte) : State := ({ s with regs := { s.regs with a := x, f := f } }).ended (nextPc s 1) 4
    (∀ z n h c : Bool, (packFlags z n h c).toNat = 128 * z.toNat + 64 * n.toNat + 32 * h.toNat + 16 * c.toNat) ∧
    runsTo [0x27] s (out (BitVec.ofInt 8 r)
      (packFlags (decide (r % 256 = 0)) s.flags.n false (if s.flags.n then s.flags.c else hi))) ∧
    runsTo [0x2F] s (out (BitVec.ofNat 8 (255 - s.regs.a.toNat)) (packFlags s.flags.z true true s.flags.c)) ∧
    runsTo [0x37] s (out s.regs.a (packFlags s.flags.z false false true)) ∧
    runsTo [0x3F] s (out s.regs.a (packFlags s.flags.z false false (!s.flags.c)))

/-- 42_alu16.md R270-R272: ADD HL,rr with the carries out of bits 11 and 15, Z kept; INC rr and DEC rr write no
flag. -/
def Obligations.PairArithmetic : Prop :=
  ∀ (s : State) (p : BitVec 2),
    let v := s.pair (pairTable p)
    runsTo [BitVec.ofNat 8 (0x09 + 16 * p.toNat)] s
      (({ s.setHl (BitVec.ofNat 16 (s.hl.toNat + v.toNat)) with
          regs := { (s.setHl (BitVec.ofNat 16 (s.hl.toNat + v.toNat))).regs with
            f := packFlags s.flags.z false (decide (s.hl.toNat % 4096 + v.toNat % 4096 > 0x0FFF))
                   (decide (s.hl.toNat + v.toNat > 0xFFFF)) } }).ended (nextPc s 1) 8) ∧
    runsTo [BitVec.ofNat 8 (0x03 + 16 * p.toNat)] s ((s.setPair (pairTable p) (v + 1)).ended (nextPc s 1) 8) ∧
    runsTo [BitVec.ofNat 8 (0x0B + 16 * p.toNat)] s ((s.setPair (pairTable p) (v - 1)).ended (nextPc s 1) 8)

/-- 42_alu16.md R273, R274: ADD SP,e8 and LD HL,SP+e8: the displacement is signed; H and C are the carries of the
unsigned sum of the low bytes. -/
def Obligations.StackPointerDisplacement : Prop :=
  ∀ (s : State) (e : Byte),
    let t : Word := BitVec.ofInt 16 (s.regs.sp.toNat + e.toInt)
    let f : Byte := packFlags false false (decide (s.regs.sp.toNat % 16 + e.toNat % 16 > 0x0F))
      (decide (s.regs.sp.toNat % 256 + e.toNat > 0xFF))
    runsTo [0xE8, e] s (({ s with regs := { s.regs with sp := t, f := f } }).ended (nextPc s 2) 16) ∧
    runsTo [0xF8, e] s
      (({ s with regs := { s.regs with h := t.extractLsb' 8 8, l := t.extractLsb' 0 8, f := f } }).ended
        (nextPc s 2) 12)

/-! ### Rotates, shifts and bits -/

/-- 43_rotate_bit.md R290-R293: RLCA, RRCA, RLA and RRA: Z is always 0, C is the bit rotated out. -/
def Obligations.AccumulatorRotates : Prop :=
  ∀ (s : State),
    let a := s.regs.a.toNat
    let k := s.flags.c.toNat
    let out (r : Nat) (c : Bool) : State :=
      ({ s with regs := { s.regs with a := BitVec.ofNat 8 r, f := packFlags false false false c } }).ended (nextPc s 1) 4
    runsTo [0x07] s (out (2 * a + a / 128) (decide (a / 128 = 1))) ∧
    runsTo [0x0F] s (out (a / 2 + 128 * (a % 2)) (decide (a % 2 = 1))) ∧
    runsTo [0x17] s (out (2 * a + k) (decide (a / 128 = 1))) ∧
    runsTo [0x1F] s (out (a / 2 + 128 * k) (decide (a % 2 = 1)))

/-- 43_rotate_bit.md R294-R302: the eight rotates and shifts of the CB group on every operand of the table `r8`: the
result in exact arithmetic on the operand `v`, Z computed, C the bit moved out (0 for SWAP). -/
def Obligations.CbRotatesAndShifts : Prop :=
  ∀ (s : State) (z : BitVec 3) (v : Byte) (write : Byte → State) (cost : Nat), cbForm z s v write cost →
    let n := v.toNat
    let k := s.flags.c.toNat
    let out (r : Nat) (c : Bool) : State :=
      let t := write (BitVec.ofNat 8 r)
      ({ t with regs := { t.regs with f := packFlags (decide (r % 256 = 0)) false false c } }).ended (nextPc s 2) cost
    runsTo [0xCB, opcodeByte 0 0 z] s (out (2 * n + n / 128) (decide (n / 128 = 1))) ∧
    runsTo [0xCB, opcodeByte 0 1 z] s (out (n / 2 + 128 * (n % 2)) (decide (n % 2 = 1))) ∧
    runsTo [0xCB, opcodeByte 0 2 z] s (out (2 * n + k) (decide (n / 128 = 1))) ∧
    runsTo [0xCB, opcodeByte 0 3 z] s (out (n / 2 + 128 * k) (decide (n % 2 = 1))) ∧
    runsTo [0xCB, opcodeByte 0 4 z] s (out (2 * n) (decide (n / 128 = 1))) ∧
    runsTo [0xCB, opcodeByte 0 5 z] s (out (n / 2 + 128 * (n / 128)) (decide (n % 2 = 1))) ∧
    runsTo [0xCB, opcodeByte 0 6 z] s (out (16 * (n % 16) + n / 16) false) ∧
    runsTo [0xCB, opcodeByte 0 7 z] s (out (n / 2) (decide (n % 2 = 1)))

/-- 43_rotate_bit.md R294, R303: BIT b on every operand, for every b: nothing is written back, C is kept; the memory
form costs 12. -/
def Obligations.BitTests : Prop :=
  ∀ (s : State) (b z : BitVec 3) (v : Byte) (write : Byte → State) (cost : Nat), cbForm z s v write cost →
    runsTo [0xCB, opcodeByte 1 b z] s
      (({ s with regs := { s.regs with
          f := packFlags (decide (v.toNat / 2 ^ b.toNat % 2 = 0)) false true s.flags.c } }).ended (nextPc s 2)
        (if z = 6 then 12 else 8))

/-- 43_rotate_bit.md R294, R304, R305: RES b and SET b on every operand, for every b: only bit b changes, no flag is
written. -/
def Obligations.BitResetsAndSets : Prop :=
  ∀ (s : State) (b z : BitVec 3) (v : Byte) (write : Byte → State) (cost : Nat), cbForm z s v write cost →
    let bit := v.toNat / 2 ^ b.toNat % 2
    runsTo [0xCB, opcodeByte 2 b z] s
      ((write (BitVec.ofNat 8 (v.toNat - bit * 2 ^ b.toNat))).ended (nextPc s 2) cost) ∧
    runsTo [0xCB, opcodeByte 3 b z] s
      ((write (BitVec.ofNat 8 (v.toNat + (1 - bit) * 2 ^ b.toNat))).ended (nextPc s 2) cost)

/-! ### Control transfer -/

/-- 44_control.md R320-R324: JP, JP cc, JP HL, JR and JR cc, taken and not taken. A relative target is counted from the
next instruction, modulo 2^16. The conditions are spelled on the bits of F (30_encoding.md R169, 10_state.md R33): k = 0 is
bit 7 clear, 1 bit 7 set, 2 bit 4 clear, 3 bit 4 set; and so are the four flags that other statements read by name. -/
def Obligations.Jumps : Prop :=
  ∀ (s : State) (k : BitVec 2) (e lo hi : Byte),
    let rel : Word := BitVec.ofInt 16 ((nextPc s 2).toNat + e.toInt)
    let bit (j : Nat) : Bool := s.regs.f.getLsbD j
    let taken : Bool := if k = 0 then !bit 7 else if k = 1 then bit 7 else if k = 2 then !bit 4 else bit 4
    (s.flags.z = bit 7 ∧ s.flags.n = bit 6 ∧ s.flags.h = bit 5 ∧ s.flags.c = bit 4) ∧
    condHolds (condTable k) s.flags = taken ∧
    runsTo [0xC3, lo, hi] s (s.ended (hi ++ lo) 16) ∧
    runsTo [BitVec.ofNat 8 (0xC2 + 8 * k.toNat), lo, hi] s
      (if taken then s.ended (hi ++ lo) 16 else s.ended (nextPc s 3) 12) ∧
    runsTo [0xE9] s (s.ended s.hl 4) ∧
    runsTo [0x18, e] s (s.ended rel 12) ∧
    runsTo [BitVec.ofNat 8 (0x20 + 8 * k.toNat), e] s
      (if taken then s.ended rel 12 else s.ended (nextPc s 2) 8)

/-- 44_control.md R325, R326, R331, 00_scope.md R13: CALL, CALL cc (taken and not taken, the condition spelled on the bits
of F) and RST push the address of the next instruction. -/
def Obligations.CallsAndRestarts : Prop :=
  ∀ (s : State) (k : BitVec 2) (y : BitVec 3) (lo hi : Byte),
    let bit (j : Nat) : Bool := s.regs.f.getLsbD j
    let taken : Bool := if k = 0 then !bit 7 else if k = 1 then bit 7 else if k = 2 then !bit 4 else bit 4
    runsTo [0xCD, lo, hi] s ((afterPush (nextPc s 3) s).ended (hi ++ lo) 24) ∧
    runsTo [BitVec.ofNat 8 (0xC4 + 8 * k.toNat), lo, hi] s
      (if taken then (afterPush (nextPc s 3) s).ended (hi ++ lo) 24
       else s.ended (nextPc s 3) 12) ∧
    runsTo [opcodeByte 3 y 7] s ((afterPush (nextPc s 1) s).ended (BitVec.ofNat 16 (8 * y.toNat)) 16)

/-- 44_control.md R327-R329, 00_scope.md R13: RET, RET cc (taken and not taken, the condition spelled on the bits of F)
and RETI, which sets IME at once and leaves `ei_pending`. -/
def Obligations.Returns : Prop :=
  ∀ (s : State) (k : BitVec 2),
    let bit (j : Nat) : Bool := s.regs.f.getLsbD j
    let taken : Bool := if k = 0 then !bit 7 else if k = 1 then bit 7 else if k = 2 then !bit 4 else bit 4
    let back : State := s.setSp (s.regs.sp + 2)
    runsTo [0xC9] s (back.ended (poppedWord s) 16) ∧
    runsTo [BitVec.ofNat 8 (0xC0 + 8 * k.toNat)] s
      (if taken then back.ended (poppedWord s) 20 else s.ended (nextPc s 1) 8) ∧
    runsTo [0xD9] s (({ back with ctl := { back.ctl with ime := true } }).ended (poppedWord s) 16)

/-! ### System instructions -/

/-- 45_system.md R350, R351, R353, R354: NOP, HALT under both values of `HALT_BUG`, DI and EI. -/
def Obligations.SystemInstructions : Prop :=
  ∀ (s : State),
    let e : State := s.ended (nextPc s 1) 4
    runsTo [0x00] s e ∧
    (s.params.haltBug = .none → runsTo [0x76] s { e with ctl := { e.ctl with halted := true } }) ∧
    (s.params.haltBug = .doubleRead → s.ctl.ime = false → s.intr.pending &&& s.intr.enabled ≠ 0 →
      runsTo [0x76] s { e with ctl := { e.ctl with halted := false, haltBugLatch := true } }) ∧
    (s.params.haltBug = .doubleRead → s.ctl.ime = true ∨ s.intr.pending &&& s.intr.enabled = 0 →
      runsTo [0x76] s { e with ctl := { e.ctl with halted := true } }) ∧
    runsTo [0xF3] s { e with ctl := { e.ctl with ime := false, eiPending := false } } ∧
    runsTo [0xFB] s { e with ctl := { e.ctl with eiPending := true } }

/-- 45_system.md R352, R355, 60_exceptions.md R405: STOP under each `STOP_MODE`, and the eleven illegal bytes. A raise
records the byte and the address it was fetched from and changes nothing else but PC, which is past that byte. The model's
own readings: the raise is a next state (log 5); with the halt-bug latch set the fetch leaves PC on the byte, against the
rule's `addr + 1`, and spends the latch (log 12). -/
def Obligations.StopAndIllegalBytes : Prop :=
  ∀ (s : State) (d : Byte),
    let raised (b : Byte) : State :=
      { s with regs := { s.regs with pc := if s.ctl.haltBugLatch then s.regs.pc else s.regs.pc + 1 }
               ctl := { s.ctl with haltBugLatch := false, fatal := some { byte := b, addr := s.regs.pc } } }
    let e : State := s.ended (nextPc s 2) 4
    (s.params.stopMode = .fault → runsTo [0x10, d] s (raised 0x10)) ∧
    (s.params.stopMode = .nop2 → runsTo [0x10, d] s e) ∧
    (s.params.stopMode = .haltUntilJoypad → runsTo [0x10, d] s
      { e with ctl := { e.ctl with stopped := true }, timer := { s.timer with div16 := 0 } }) ∧
    ∀ b ∈ ([0xD3, 0xDB, 0xDD, 0xE3, 0xE4, 0xEB, 0xEC, 0xED, 0xF4, 0xFC, 0xFD] : List Byte), runsTo [b] s (raised b)

/-! ### The CPU's dot: boundaries, interrupts, the fatal error -/

/-- 60_exceptions.md R402, R408, R433. What a dot does where nothing is fetched and no interrupt is serviced: inside an
instruction only `wait` counts down; a stopped core and an idle halted core do nothing at the boundary; a halted core
with an enabled pending interrupt and IME = 0 is woken and goes on as if it had not been halted. The PPU and the timer
run in each case. -/
def Obligations.BoundariesWithoutService : Prop :=
  ∀ (s : State), s.ctl.fatal = none →
    let some1 := s.intr.pending &&& s.intr.enabled ≠ 0
    let idle : State := timerDot (ppuDot { s with ctl := { s.ctl with wait := 0 } })
    (s.ctl.wait > 1 → step s = .next (timerDot (ppuDot { s with ctl := { s.ctl with wait := s.ctl.wait - 1 } }))) ∧
    (s.ctl.wait ≤ 1 → s.ctl.stopped = true → step s = .next idle) ∧
    (s.ctl.wait ≤ 1 → s.ctl.stopped = false → s.ctl.halted = true → ¬some1 → step s = .next idle) ∧
    (s.ctl.wait ≤ 1 → s.ctl.stopped = false → s.ctl.halted = true → some1 → s.ctl.ime = false →
      step s = step { s with ctl := { s.ctl with halted := false } })

/-- 60_exceptions.md R403, R409. Interrupt service: at a boundary with IME set, the lowest pending and enabled source
`k` is taken: its IF bit, IME, `ei_pending` and `halted` are cleared, PC is pushed high byte first, PC becomes
0x0040 + 8k and 20 dots are taken; the other IF bits, IE, F and the other registers are as before. That a halt-bug latch
that is set stays set through the service is the model's reading (log 12). -/
def Obligations.InterruptServiceTakesTheLowestSource : Prop :=
  ∀ (s : State) (k : Nat), s.ctl.fatal = none → s.ctl.wait ≤ 1 → s.ctl.stopped = false → s.ctl.ime = true →
    k < 5 → s.intr.pending.getLsbD k = true → s.intr.enabled.getLsbD k = true →
    (∀ j < k, (s.intr.pending.getLsbD j && s.intr.enabled.getLsbD j) = false) →
    let p := afterPush s.regs.pc { s with intr := { s.intr with pending := s.intr.pending &&& ~~~(1#5 <<< k) } }
    step s = .next (timerDot (ppuDot
      { p with
        regs := { s.regs with sp := s.regs.sp - 2, pc := BitVec.ofNat 16 (0x40 + 8 * k) }
        ctl := { s.ctl with ime := false, eiPending := false, halted := false, wait := 20 } }))

/-- 60_exceptions.md R404, 45_system.md R353, R354. EI leaves IME alone; the instruction after it sets IME when it
completes, unless that instruction is DI, which cancels it. -/
def Obligations.EiTakesEffectAfterTheNextInstruction : Prop :=
  ∀ (s : State) (i : Instr) (rest : List Byte), fetchesNext s = true → decode (fetchBytes s) = .instr i rest →
    i.shape.raises s = false →
    ∃ t, step s = .next t ∧
      (s.ctl.eiPending = false → i = .ei → t.ctl.ime = s.ctl.ime ∧ t.ctl.eiPending = true) ∧
      (s.ctl.eiPending = true → i = .di → t.ctl.ime = false ∧ t.ctl.eiPending = false) ∧
      (s.ctl.eiPending = true → i ≠ .di → t.ctl.ime = true ∧ t.ctl.eiPending = false)

/-- 60_exceptions.md R400, R405, R407, 45_system.md R355. Fetching an illegal byte (or 0x10 under `STOP_MODE = fault`)
records it with its address and moves PC past it; the PPU and timer do not run; and from then on no dot advances. The
model's own readings: the raising dot is a next state, and every later step is the fault that reports the byte and the
address (log 5); IME and `ei_pending` are kept, with no deferred write of EI (log 13); `wait` is 0 and `halted` clear, as
the boundary left them (log 14); with the halt-bug latch set PC stays on the byte and the latch is spent (log 12). -/
def Obligations.FatalErrorHaltsTheCore : Prop :=
  (∀ (s : State) (e : UnimplementedOpcode), s.ctl.fatal = some e →
    step s = .fault (.unimplementedOpcode e.byte e.addr)) ∧
  ∀ (s : State), fetchesNext s = true → raisingByte s.params (readByte s s.regs.pc) = true →
    let t : State :=
      { s with
        regs := { s.regs with pc := if s.ctl.haltBugLatch then s.regs.pc else s.regs.pc + 1 }
        ctl := { s.ctl with wait := 0, halted := false, haltBugLatch := false,
                            fatal := some { byte := readByte s s.regs.pc, addr := s.regs.pc } } }
    step s = .next t ∧ step t = .fault (.unimplementedOpcode (readByte s s.regs.pc) s.regs.pc)

/-- 20_memory.md R86, 60_exceptions.md R416. No step changes the cartridge image, its family, the lengths, an open
parameter or a button: only construction and the host do. -/
def Obligations.StepsNeverChangeImageParametersOrButtons : Prop :=
  ∀ (s t : State), step s = .next t →
    t.cart.rom = s.cart.rom ∧ t.cart.romLen = s.cart.romLen ∧ t.cart.family = s.cart.family ∧
    t.cart.ramLen = s.cart.ramLen ∧ t.params = s.params ∧ t.io.buttons = s.io.buttons

/-- 60_exceptions.md R412, R415, 20_memory.md R96. In a step, a pending bit is cleared only by an interrupt service or by
an instruction that stores to IF; the serial and joypad bits are set only by a service's push or an instruction that
stores to IF, never by a unit. A push that lands on 0xFF0F counts as a CPU write to IF, since it goes through the same
write (R13, R85). -/
def Obligations.PendingBitsChangeOnlyAsTheRulesSay : Prop :=
  ∀ (s t : State) (k : Nat), step s = .next t →
    (s.intr.pending.getLsbD k = true ∧ t.intr.pending.getLsbD k = false) ∨
      (s.intr.pending.getLsbD k = false ∧ t.intr.pending.getLsbD k = true ∧ 3 ≤ k) →
    (atBoundary s = true ∧ s.ctl.stopped = false ∧ s.ctl.ime = true ∧ s.intr.pending &&& s.intr.enabled ≠ 0) ∨
    (fetchesNext s = true ∧ ∃ i rest, decode (fetchBytes s) = .instr i rest ∧ 0xFF0F ∈ i.shape.stores s)

/-! ### The timer -/

/-- 61_timer.md R440-R442, R444. One dot of the timer: the divider counts; with TAC[2] set the accumulator counts to the
threshold of TAC[1:0], then TIMA counts, or is reloaded from TMA with IF bit 2 set in the same dot. Nothing else
changes. -/
def Obligations.TimerDot : Prop :=
  ∀ (s : State),
    let t := timerDot s
    let thr := if s.timer.tac.toNat % 4 = 0 then 1024 else if s.timer.tac.toNat % 4 = 1 then 16
      else if s.timer.tac.toNat % 4 = 2 then 64 else 256
    t = { s with timer := t.timer, intr := t.intr } ∧
    t.intr.enabled = s.intr.enabled ∧ t.intr.ieHi = s.intr.ieHi ∧
    t.timer.tma = s.timer.tma ∧ t.timer.tac = s.timer.tac ∧
    t.timer.div16.toNat = (s.timer.div16.toNat + 1) % 65536 ∧
    (s.timer.tac.toNat < 4 → t.timer.tacc = s.timer.tacc ∧ t.timer.tima = s.timer.tima ∧ t.intr = s.intr) ∧
    (s.timer.tac.toNat ≥ 4 → s.timer.tacc + 1 < thr →
      t.timer.tacc = s.timer.tacc + 1 ∧ t.timer.tima = s.timer.tima ∧ t.intr = s.intr) ∧
    (s.timer.tac.toNat ≥ 4 → s.timer.tacc + 1 ≥ thr → s.timer.tima ≠ 0xFF →
      t.timer.tacc = 0 ∧ t.timer.tima.toNat = s.timer.tima.toNat + 1 ∧ t.intr = s.intr) ∧
    (s.timer.tac.toNat ≥ 4 → s.timer.tacc + 1 ≥ thr → s.timer.tima = 0xFF →
      t.timer.tacc = 0 ∧ t.timer.tima = s.timer.tma ∧ t.intr.pending = s.intr.pending ||| 0b00100)

/-- 61_timer.md R449, R552. Over any 256 dots of the timer DIV increases by exactly 1, modulo 256; and from `tacc = 0`
with TAC[2] set TIMA keeps its value for thr - 1 dots and counts once, in the last of thr dots. -/
def Obligations.DividerAndCounterPeriods : Prop :=
  ∀ (s : State),
    let thr := if s.timer.tac.toNat % 4 = 0 then 1024 else if s.timer.tac.toNat % 4 = 1 then 16
      else if s.timer.tac.toNat % 4 = 2 then 64 else 256
    (readByte (timerDot^[256] s) 0xFF04).toNat = ((readByte s 0xFF04).toNat + 1) % 256 ∧
    (s.timer.tac.toNat ≥ 4 → s.timer.tacc = 0 →
      (∀ j < thr, (timerDot^[j] s).timer.tima = s.timer.tima ∧ (timerDot^[j] s).timer.tacc = j ∧
        (timerDot^[j] s).intr = s.intr) ∧
      (timerDot^[thr] s).timer.tacc = 0 ∧
      (timerDot^[thr] s).timer.tima = (if s.timer.tima = 0xFF then s.timer.tma else s.timer.tima + 1) ∧
      ((timerDot^[thr] s).intr.pending = if s.timer.tima = 0xFF then s.intr.pending ||| 0b00100 else s.intr.pending))

/-! ### The PPU -/

/-- 62_ppu.md R470-R476, R480, R481. One dot of the enabled PPU: inside a mode only the dot counter moves; in the dot
that reaches the mode's length the mode changes, with the line, the coincidence bit, the composed line and the IF bits
that the rule of that mode gives. -/
def Obligations.ModeTransitions : Prop :=
  ∀ (s : State), s.ppu.lcdc.getLsbD 7 = true → s.ppu.lcdOffSeen = false →
    let stat (i : Nat) : BitVec 5 := if s.ppu.statEn.getLsbD i then 0b00010 else 0
    let lyc (n : Nat) : BitVec 5 := if s.ppu.lyc.toNat = n then stat 3 else 0
    let req (m : BitVec 5) : Intr := { s.intr with pending := s.intr.pending ||| m }
    (∀ len, (s.ppu.mode, len) ∈ [(PpuMode.oamSearch, 80), (.pixelTransfer, 172), (.hblank, 204), (.vblank, 456)] →
      s.ppu.modeDot + 1 ≠ len → ppuDot s = { s with ppu := { s.ppu with modeDot := s.ppu.modeDot + 1 } }) ∧
    (s.ppu.mode = .oamSearch → s.ppu.modeDot = 79 →
      ppuDot s = { s with ppu := { s.ppu with mode := .pixelTransfer, modeDot := 0, composed := true }
                          pixels := if s.ppu.composed then s.pixels else (composeLine s.ppu.ly s).pixels }) ∧
    (s.ppu.mode = .pixelTransfer → s.ppu.modeDot = 171 →
      ppuDot s = { s with ppu := { s.ppu with mode := .hblank, modeDot := 0 }, intr := req (stat 0) }) ∧
    (s.ppu.mode = .hblank → s.ppu.modeDot = 203 → s.ppu.ly + 1 ≠ 144 →
      ppuDot s = { s with ppu := { s.ppu with mode := .oamSearch, modeDot := 0, ly := s.ppu.ly + 1, composed := false
                                              statLyc := decide (s.ppu.ly + 1 = s.ppu.lyc.toNat) }
                          intr := req (lyc (s.ppu.ly + 1) ||| stat 2) }) ∧
    (s.ppu.mode = .hblank → s.ppu.modeDot = 203 → s.ppu.ly + 1 = 144 →
      ppuDot s = { s with ppu := { s.ppu with mode := .vblank, modeDot := 0, ly := 144
                                              statLyc := decide (144 = s.ppu.lyc.toNat) }
                          intr := req (lyc 144 ||| 0b00001 ||| stat 1) }) ∧
    (s.ppu.mode = .vblank → s.ppu.modeDot = 455 → s.ppu.ly ≠ 153 →
      ppuDot s = { s with ppu := { s.ppu with modeDot := 0, ly := s.ppu.ly + 1
                                              statLyc := decide (s.ppu.ly + 1 = s.ppu.lyc.toNat) }
                          intr := req (lyc (s.ppu.ly + 1)) }) ∧
    (s.ppu.mode = .vblank → s.ppu.modeDot = 455 → s.ppu.ly = 153 →
      ppuDot s = { s with ppu := { s.ppu with mode := .oamSearch, modeDot := 0, ly := 0, composed := false
                                              statLyc := decide (0 = s.ppu.lyc.toNat) }
                          intr := req (lyc 0 ||| stat 2) })

/-- 62_ppu.md R477. The 456 dots of a visible line from its start: OAM-search, the line composed in dot 80,
pixel-transfer, h-blank from dot 252, and the next line (or v-blank after line 143) in dot 456. -/
def Obligations.LineTimeline : Prop :=
  ∀ (s : State) (n k : Nat), s.ppu.lcdc.getLsbD 7 = true → s.ppu.lcdOffSeen = false → s.ppu.mode = .oamSearch →
    s.ppu.modeDot = 0 → s.ppu.composed = false → s.ppu.ly = n → n < 144 → k ≤ 456 →
    let t := ppuDot^[k] s
    (k < 80 → t.ppu.mode = .oamSearch ∧ t.ppu.modeDot = k ∧ t.ppu.ly = n ∧ t.pixels = s.pixels) ∧
    (80 ≤ k → t.pixels = (composeLine n s).pixels) ∧
    (80 ≤ k → k < 252 → t.ppu.mode = .pixelTransfer ∧ t.ppu.modeDot = k - 80 ∧ t.ppu.ly = n) ∧
    (252 ≤ k → k < 456 → t.ppu.mode = .hblank ∧ t.ppu.modeDot = k - 252 ∧ t.ppu.ly = n) ∧
    (k = 456 → t.ppu.mode = (if n = 143 then .vblank else .oamSearch) ∧ t.ppu.modeDot = 0 ∧ t.ppu.ly = n + 1)

/-- 62_ppu.md R471, R476, R477. A whole frame from the start of line 0: IF bit 0 is untouched for the first 65663 dots
and set in dot 65664, in which LY becomes 144 and the mode v-blank; after 70224 dots the PPU is at the start of line 0
again. -/
def Obligations.FrameOf70224Dots : Prop :=
  ∀ (s : State), s.ppu.lcdc.getLsbD 7 = true → s.ppu.lcdOffSeen = false → s.ppu.mode = .oamSearch →
    s.ppu.modeDot = 0 → s.ppu.composed = false → s.ppu.ly = 0 →
    (∀ k < 65664, (ppuDot^[k] s).intr.pending.getLsbD 0 = s.intr.pending.getLsbD 0) ∧
    (ppuDot^[65664] s).ppu.ly = 144 ∧ (ppuDot^[65664] s).ppu.mode = .vblank ∧
    (∀ k, 65664 ≤ k → k ≤ 70224 → (ppuDot^[k] s).intr.pending.getLsbD 0 = true) ∧
    (ppuDot^[70224] s).ppu.mode = .oamSearch ∧ (ppuDot^[70224] s).ppu.modeDot = 0 ∧
    (ppuDot^[70224] s).ppu.ly = 0 ∧ (ppuDot^[70224] s).ppu.composed = false

/-- 62_ppu.md R486. LCD off: the first dot goes to line 0, h-blank, and every later dot does nothing; no interrupt, no
composed line, and the coincidence bit stays. LCD on again: that dot counts as dot 1 of OAM-search of line 0. -/
def Obligations.LcdOffAndOn : Prop :=
  ∀ (s : State),
    (s.ppu.lcdc.getLsbD 7 = false → s.ppu.lcdOffSeen = false →
      ppuDot s = { s with ppu := { s.ppu with lcdOffSeen := true, ly := 0, mode := .hblank, modeDot := 0
                                              composed := false } }) ∧
    (s.ppu.lcdc.getLsbD 7 = false → s.ppu.lcdOffSeen = true → ppuDot s = s) ∧
    (s.ppu.lcdc.getLsbD 7 = true → s.ppu.lcdOffSeen = true →
      ppuDot s = { s with ppu := { s.ppu with lcdOffSeen := false, ly := 0, mode := .oamSearch, modeDot := 1
                                              composed := false } })

/-- 62_ppu.md R489. Composing line y gives each of its 160 columns the sprite's shade where one shows, else the shade BGP
gives the background or window index; no other pixel and nothing else changes. -/
def Obligations.ComposeLineWritesItsLine : Prop :=
  ∀ (s : State) (x y : Nat), x < 160 →
    pixelAt (composeLine y s) x y =
      (match spritePixel s (selectSprites s y) x y (bgWinIndex s x y) with
       | some shade => shade
       | none => palette s.ppu.bgp (bgWinIndex s x y)) ∧
    (∀ y', y' ≠ y → pixelAt (composeLine y s) x y' = pixelAt s x y') ∧
    composeLine y s = { s with pixels := (composeLine y s).pixels }

/-- 62_ppu.md R490-R492, R497. The background or window index of column x of line y, in arithmetic on the registers and
VRAM: scroll with wraparound, the window's condition and position, the tile maps, the signed and unsigned tile areas,
the two bit planes; the palette's shades; and VRAM as the CPU reads it. -/
def Obligations.BackgroundAndWindow : Prop :=
  ∀ (s : State) (x y : Nat) (p : Byte) (i : BitVec 2),
    let on (j : Nat) : Prop := s.ppu.lcdc.getLsbD j = true
    let tile (map px py : Nat) : Nat :=
      let tn := vramByte s (map + 32 * (py / 8) + px / 8)
      let base : Nat := (if s.ppu.lcdc.getLsbD 4 then 0x8000 + 16 * tn.toNat else (0x9000 + 16 * tn.toInt : Int).toNat)
      let lo := (vramByte s (base + 2 * (py % 8))).toNat
      let hi := (vramByte s (base + 2 * (py % 8) + 1)).toNat
      2 * (hi / 2 ^ (7 - px % 8) % 2) + lo / 2 ^ (7 - px % 8) % 2
    let map (j : Nat) : Nat := if s.ppu.lcdc.getLsbD j then 0x9C00 else 0x9800
    (¬on 0 → (bgWinIndex s x y).toNat = 0) ∧
    (on 0 → on 5 → s.ppu.wy.toNat ≤ y → s.ppu.wx.toNat ≤ x + 7 →
      (bgWinIndex s x y).toNat = tile (map 6) (x + 7 - s.ppu.wx.toNat) (y - s.ppu.wy.toNat)) ∧
    (on 0 → ¬(on 5 ∧ s.ppu.wy.toNat ≤ y ∧ s.ppu.wx.toNat ≤ x + 7) →
      (bgWinIndex s x y).toNat = tile (map 3) ((x + s.ppu.scx.toNat) % 256) ((y + s.ppu.scy.toNat) % 256)) ∧
    (palette p i).toNat = p.toNat / 4 ^ i.toNat % 4 ∧
    ∀ a : Word, 0x8000 ≤ a.toNat → a.toNat ≤ 0x9FFF → vramByte s a.toNat = readByte s a

/-- 62_ppu.md R493-R496. Sprites: OAM's four bytes of each, as the CPU reads them; the ten first in OAM order that meet
the line, whatever their X, none with LCDC[1] clear; the first of them that is opaque at the column decides: it shows,
in its palette, or, when its priority bit is set over a non-zero index, nothing shows. -/
def Obligations.SpriteSelectionAndPixel : Prop :=
  ∀ (s : State) (y : Nat),
    let h := if s.ppu.lcdc.getLsbD 2 then 16 else 8
    let meets (i : Nat) : Bool := decide ((spriteAt s i).y ≤ y + 16 ∧ y + 16 < (spriteAt s i).y + h)
    (∃ order : List Nat, order.Pairwise (· < ·) ∧
      (∀ i, i ∈ order ↔ i < 40 ∧ meets i = true ∧ ((List.range i).filter meets).length < 10) ∧
      selectSprites s y = if s.ppu.lcdc.getLsbD 1 then order.map (spriteAt s) else []) ∧
    (∀ i < 40, let byte (k : Nat) : Byte := readByte s (BitVec.ofNat 16 (0xFE00 + 4 * i + k))
      spriteAt s i = { y := (byte 0).toNat, x := (byte 1).toNat, tile := byte 2, attr := byte 3 }) ∧
    ∀ (x : Nat) (bi : BitVec 2) (pre post : List Sprite) (p : Sprite),
      ((∀ q ∈ pre, spriteIndex s x y q = 0) → spritePixel s pre x y bi = none) ∧
      ((∀ q ∈ pre, spriteIndex s x y q = 0) → spriteIndex s x y p ≠ 0 →
        spritePixel s (pre ++ p :: post) x y bi =
          if p.attr.getLsbD 7 = true ∧ bi ≠ 0 then none
          else some (palette (if p.attr.getLsbD 4 then s.ppu.obp1 else s.ppu.obp0) (spriteIndex s x y p))) ∧
      (p.y ≤ y + 16 → y + 16 < p.y + h → ¬(p.x ≤ x + 8 ∧ x + 8 < p.x + 8) → spriteIndex s x y p = 0) ∧
      (p.y ≤ y + 16 → y + 16 < p.y + h → p.x ≤ x + 8 → x + 8 < p.x + 8 →
        let col := if p.attr.getLsbD 5 then 7 - (x + 8 - p.x) else x + 8 - p.x
        let row := if p.attr.getLsbD 6 then h - 1 - (y + 16 - p.y) else y + 16 - p.y
        let tn := if h = 16 then p.tile.toNat / 2 * 2 else p.tile.toNat
        (spriteIndex s x y p).toNat =
          2 * ((vramByte s (0x8000 + 16 * tn + 2 * row + 1)).toNat / 2 ^ (7 - col) % 2) +
            (vramByte s (0x8000 + 16 * tn + 2 * row)).toNat / 2 ^ (7 - col) % 2)

/-! ### The address space -/

/-- 62_ppu.md R500. A write of v to 0xFF46 copies the 160 bytes that reads of v*256 + i give, DMA already holding v, into
OAM; no other address reads otherwise than before but 0xFF46, which reads v. -/
def Obligations.OamDmaCopies160Bytes : Prop :=
  ∀ (s : State) (v : Byte),
    let t := writeByte s 0xFF46 v
    (∀ i < 160, readByte t (BitVec.ofNat 16 (0xFE00 + i)) =
      readByte { s with ppu := { s.ppu with dma := v } } (BitVec.ofNat 16 (v.toNat * 256 + i))) ∧
    readByte t 0xFF46 = v ∧
    (∀ b : Word, b ≠ 0xFF46 → ¬(0xFE00 ≤ b.toNat ∧ b.toNat ≤ 0xFE9F) → readByte t b = readByte s b) ∧
    t = { s with ppu := { s.ppu with dma := v }, mem := t.mem }

/-- 20_memory.md R87, R88, R90, R94, R95, R98, 62_ppu.md R502. Plain storage reads back the byte written, in any PPU
mode; the mirrored window is the same access as 0x2000 below; an unmapped address reads 0xFF and discards writes. -/
def Obligations.PlainStorageMirrorAndUnmapped : Prop :=
  ∀ (s : State) (a : Word) (v : Byte),
    let n := a.toNat
    ((0x8000 ≤ n ∧ n ≤ 0x9FFF) ∨ (0xC000 ≤ n ∧ n ≤ 0xFDFF) ∨ (0xFE00 ≤ n ∧ n ≤ 0xFE9F) ∨ (0xFF10 ≤ n ∧ n ≤ 0xFF3F) ∨
      (0xFF80 ≤ n ∧ n ≤ 0xFFFE) → readByte (writeByte s a v) a = v) ∧
    (0xE000 ≤ n ∧ n ≤ 0xFDFF → writeByte s a v = writeByte s (a - 0x2000) v ∧
      readByte s a = readByte s (a - 0x2000)) ∧
    ((0xFEA0 ≤ n ∧ n ≤ 0xFEFF) ∨ n = 0xFF03 ∨ (0xFF08 ≤ n ∧ n ≤ 0xFF0E) ∨ (0xFF4C ≤ n ∧ n ≤ 0xFF4F) ∨
      (0xFF51 ≤ n ∧ n ≤ 0xFF7F) → readByte s a = 0xFF ∧ writeByte s a v = s)

/-- 20_memory.md R93, R96, R97, R99, 60_exceptions.md R413, R414, 61_timer.md R445-R447, 62_ppu.md R482, R483, R488,
R497. The I/O registers: what a write stores and what a read gives, the fixed bits, the read-only bits, and the button
lines. LY is read for the lines the spec gives, 0 to 153. -/
def Obligations.IoRegisters : Prop :=
  ∀ (s : State) (v : Byte),
    let plain (a : Word) : Prop := readByte (writeByte s a v) a = v
    plain 0xFF01 ∧ plain 0xFF02 ∧ plain 0xFF05 ∧ plain 0xFF06 ∧ plain 0xFF40 ∧ plain 0xFF42 ∧ plain 0xFF43 ∧
    plain 0xFF45 ∧ plain 0xFF46 ∧ plain 0xFF47 ∧ plain 0xFF48 ∧ plain 0xFF49 ∧ plain 0xFF4A ∧ plain 0xFF4B ∧
    plain 0xFFFF ∧
    writeByte s 0xFF04 v = { s with timer := { s.timer with div16 := 0 } } ∧
    (readByte s 0xFF04).toNat = s.timer.div16.toNat / 256 ∧
    writeByte s 0xFF07 v = { s with timer := { s.timer with tac := BitVec.ofNat 3 v.toNat } } ∧
    (readByte s 0xFF07).toNat = 0xF8 + s.timer.tac.toNat ∧
    writeByte s 0xFF0F v = { s with intr := { s.intr with pending := BitVec.ofNat 5 v.toNat } } ∧
    (readByte s 0xFF0F).toNat = 0xE0 + s.intr.pending.toNat ∧
    writeByte s 0xFFFF v = { s with intr := { s.intr with enabled := BitVec.ofNat 5 v.toNat
                                                          ieHi := BitVec.ofNat 3 (v.toNat / 32) } } ∧
    writeByte s 0xFF41 v = { s with ppu := { s.ppu with statEn := BitVec.ofNat 4 (v.toNat / 8) } } ∧
    (readByte s 0xFF41).toNat = 0x80 + 8 * s.ppu.statEn.toNat + 4 * s.ppu.statLyc.toNat +
      (match s.ppu.mode with | .hblank => 0 | .vblank => 1 | .oamSearch => 2 | .pixelTransfer => 3) ∧
    writeByte s 0xFF44 v = s ∧ (s.ppu.ly ≤ 153 → (readByte s 0xFF44).toNat = s.ppu.ly) ∧
    writeByte s 0xFF00 v = { s with io := { s.io with joypSel := BitVec.ofNat 2 (v.toNat / 16) } } ∧
    (let b := s.io.buttons
     let line (i : Nat) (direction action : Bool) : Prop :=
       (readByte s 0xFF00).getLsbD i =
         !((!s.io.joypSel.getLsbD 0 && direction) || (!s.io.joypSel.getLsbD 1 && action))
     line 0 b.right b.a ∧ line 1 b.left b.b ∧ line 2 b.up b.select ∧ line 3 b.down b.start ∧
       (readByte s 0xFF00).toNat / 16 = 12 + s.io.joypSel.toNat)

/-- 21_cartridge.md R135-R145, R147. The cartridge: a ROM-only image, and MBC1's four control registers, its ROM windows
and its RAM window, in arithmetic on the registers. Out of range reads 0xFF and discards. The last clause, that a
bank-select write of 0 selects bank 32n + 1, or bank 1 in mode 1, is R145's consequence, which the spec marks as derived
from R137 and R140. -/
def Obligations.CartridgeWindows : Prop :=
  ∀ (s : State) (a : Word) (v : Byte), s.io.bootOverlay = false →
    let n := a.toNat
    let rom (off : Nat) : Byte := if off < s.cart.romLen then Store.read s.cart.rom off else 0xFF
    let bank := if s.cart.bankMode then s.cart.romLo5.toNat else 32 * s.cart.bankHi2.toNat + s.cart.romLo5.toNat
    let off := (if s.cart.bankMode then s.cart.bankHi2.toNat else 0) * 0x2000 + (n - 0xA000)
    (s.cart.family = .romOnly →
      (n ≤ 0x7FFF → readByte s a = rom n ∧ writeByte s a v = s) ∧
      (0xA000 ≤ n → n ≤ 0xBFFF → readByte s a = 0xFF ∧ writeByte s a v = s)) ∧
    (s.cart.family = .mbc1 →
      (n ≤ 0x1FFF → writeByte s a v = { s with cart := { s.cart with ramEnable := decide (v.toNat % 16 = 0xA) } }) ∧
      (0x2000 ≤ n → n ≤ 0x3FFF → writeByte s a v =
        { s with cart := { s.cart with romLo5 := if v.toNat % 32 = 0 then 1 else BitVec.ofNat 5 v.toNat } }) ∧
      (0x4000 ≤ n → n ≤ 0x5FFF → writeByte s a v =
        { s with cart := { s.cart with bankHi2 := BitVec.ofNat 2 v.toNat } }) ∧
      (0x6000 ≤ n → n ≤ 0x7FFF → writeByte s a v =
        { s with cart := { s.cart with bankMode := decide (v.toNat % 2 = 1) } }) ∧
      (n ≤ 0x3FFF → readByte s a = rom n) ∧
      (0x4000 ≤ n → n ≤ 0x7FFF → readByte s a = rom (bank * 0x4000 + (n - 0x4000))) ∧
      (0xA000 ≤ n → n ≤ 0xBFFF →
        (s.cart.ramEnable = true → off < s.cart.ramLen → readByte s a = Store.read s.cart.ram off ∧
          readByte (writeByte s a v) a = v) ∧
        (s.cart.ramEnable = false ∨ s.cart.ramLen ≤ off → readByte s a = 0xFF ∧ writeByte s a v = s)) ∧
      (0x2000 ≤ n → n ≤ 0x3FFF → romBank (writeByte s a 0).cart =
        if s.cart.bankMode then 1 else 32 * s.cart.bankHi2.toNat + 1))

/-- 20_memory.md R81, R91, R92. The boot overlay: while it is active the bottom 256 addresses read `BOOT_ROM`; writes
never see it; a non-zero write to 0xFF50 clears it, a zero write does nothing, 0xFF50 reads 0xFF; and no step sets it
again. -/
def Obligations.BootOverlay : Prop :=
  (∀ (s : State) (a : Word) (v : Byte),
    (s.io.bootOverlay = true → a.toNat ≤ 0xFF → readByte s a = Store.read s.params.bootRom a.toNat) ∧
    (a.toNat > 0xFF → readByte { s with io := { s.io with bootOverlay := true } } a =
      readByte { s with io := { s.io with bootOverlay := false } } a) ∧
    (a.toNat ≤ 0xFF → writeByte s a v = { s with cart := cartWriteControl s.cart a.toNat v }) ∧
    (v ≠ 0 → writeByte s 0xFF50 v = { s with io := { s.io with bootOverlay := false } }) ∧
    writeByte s 0xFF50 0 = s ∧ readByte s 0xFF50 = 0xFF) ∧
  ∀ (s t : State), step s = .next t → s.io.bootOverlay = false → t.io.bootOverlay = false

/-! ### The invariant, reset and the host -/

/-- 10_state.md R34, R40, R42, R47-R58, 21_cartridge.md R137, 62_ppu.md R471, R472, R486. Every step keeps the invariant:
the flags' low nibble 0, `wait` at most 24, the timer's and the PPU's bounds, lines and modes that go together, memories
in canonical form inside their areas, the image and RAM lengths, the low ROM-bank register off 0. That these counters are
natural numbers (log 15), the memories' form (log 4), and `wait` = 0 once `fatal` is set (log 14) are the model's own. -/
def Obligations.StepKeepsTheInvariant : Prop :=
  ∀ (s t : State), Inv s → step s = .next t → Inv t

/-- The state after reset meets the invariant. Its memories, image and parameters are the model's own choice
(logs 2, 3, 4). -/
def Obligations.ResetMeetsTheInvariant : Prop := Inv State.reset

/-- 70_reset_and_hazards.md R531, 10_state.md R70. Whatever the open parameters are, a core that is constructed meets the
invariant, stands at a boundary and its first dot fetches. The notation of the arguments is the model's (log 17). -/
def Obligations.EveryConstructedCoreMeetsTheInvariant : Prop :=
  ∀ (b : BuildArgs) (s : State), construct b = .next s → Inv s ∧ s.ctl.wait = 0 ∧ fetchesNext s = true

/-- 10_state.md R36, R66, R70, 21_cartridge.md R131, R132, R134, R148, 70_reset_and_hazards.md R530-R533. Construction: the
three refusals, the image, the parameters, and the reset values of every register and counter in both boot modes; what the
tables leave unspecified is `INITIAL_RAM`'s. The model's own: a byte sequence is a list of pairs, a later pair for an
offset counting, a byte not listed 0x00 (logs 4, 17, said by the clause on `Store.ofList`); the parameters stand in the state
(log 10); the halt-bug latch, which the reset table does not list, is clear (log 12). -/
def Obligations.ConstructionAndResetValues : Prop :=
  (∀ (keep : Nat → Bool) (cells : List (Nat × Byte)) (k : Nat), Store.read (Store.ofList keep cells) k =
    if keep k then (((cells.filter (fun c => c.1 = k)).getLast?.map Prod.snd).getD 0x00) else 0x00) ∧
  ∀ (b : BuildArgs),
    let image : Memory := Store.ofList (fun k => decide (k < b.imageLen)) b.image
    let type := (Store.read image 0x147).toNat
    let code := (Store.read image 0x149).toNat
    (b.imageLen < 0x150 → construct b = .refused (.imageTooShort b.imageLen)) ∧
    (0x150 ≤ b.imageLen → 3 < type → construct b = .refused (.cartridgeType (Store.read image 0x147))) ∧
    (0x150 ≤ b.imageLen → 1 ≤ type → type ≤ 3 → 5 < code → construct b = .refused (.ramSizeCode (Store.read image 0x149))) ∧
    (0x150 ≤ b.imageLen → type = 0 ∨ (type ≤ 3 ∧ code ≤ 5) →
      ∃ s, construct b = .next s ∧
        s.cart.family = (if type = 0 then .romOnly else .mbc1) ∧ s.cart.romLen = b.imageLen ∧ s.cart.rom = image ∧
        s.params = { b.params with bootRom := Store.ofList (fun k => decide (k < 256)) b.params.bootRom } ∧
        s.cart.ramLen = (if type = 0 then 0 else if code = 0 then 0 else if code = 1 then 2048
          else if code = 2 then 8192 else if code = 3 then 32768 else if code = 4 then 131072 else 65536) ∧
        s.cart.ram = Store.ofList (fun k => decide (k < s.cart.ramLen)) b.cartRamInit ∧
        s.mem = Store.ofList plainCell b.initialMem ∧
        s.pixels = Store.ofList (fun k => decide (k < 160 * 144)) b.initialPixels ∧
        s.cart.romLo5 = 1 ∧ s.cart.bankHi2 = 0 ∧ s.cart.bankMode = false ∧ s.cart.ramEnable = false ∧
        s.ctl = { ime := false, eiPending := false, halted := false, stopped := false, haltBugLatch := false, wait := 0
                  fatal := none } ∧
        s.intr = { pending := 0, enabled := 0, ieHi := 0 } ∧
        s.timer = { div16 := 0, tima := 0, tma := 0, tac := 0, tacc := 0 } ∧
        s.ppu = { mode := .oamSearch, modeDot := 0, ly := 0, composed := false, lcdOffSeen := false, lcdc := 0x91
                  statEn := 0, statLyc := true, scy := 0, scx := 0, lyc := 0, dma := 0xFF, bgp := 0xFC, obp0 := 0xFF
                  obp1 := 0xFF, wy := 0, wx := 0 } ∧
        s.io.sb = 0 ∧ s.io.sc = 0 ∧ s.io.joypSel = 0b11 ∧
        s.io.buttons = { up := false, down := false, left := false, right := false
                         a := false, b := false, select := false, start := false } ∧
        (s.io.bootOverlay = true ↔ b.bootMode = .bootRom) ∧
        (b.bootMode = .postBoot → s.regs = { a := 0x01, f := 0xB0, b := 0x00, c := 0x13, d := 0x00, e := 0xD8, h := 0x01
                                             l := 0x4D, sp := 0xFFFE, pc := 0x0100 }) ∧
        (b.bootMode = .bootRom → s.regs = { a := b.initialRegs.a, f := b.initialRegs.f &&& 0xF0, b := b.initialRegs.b
                                            c := b.initialRegs.c, d := b.initialRegs.d, e := b.initialRegs.e
                                            h := b.initialRegs.h, l := b.initialRegs.l, sp := b.initialRegs.sp
                                            pc := 0x0000 }))

/-- 60_exceptions.md R416, 20_memory.md R97, 45_system.md R352. `press` records the button, requests IF bit 4 and ends a
STOP, on every call; `release` records it and does nothing else; a recorded button is seen by the next read of JOYP. That
the calls are operations beside `step` is the model's (log 11). -/
def Obligations.HostPressAndRelease : Prop :=
  ∀ (s : State) (k : Button),
    let put (v : Bool) : Buttons :=
      let b := s.io.buttons
      match k with
      | .up => { b with up := v }
      | .down => { b with down := v }
      | .left => { b with left := v }
      | .right => { b with right := v }
      | .a => { b with a := v }
      | .b => { b with b := v }
      | .select => { b with select := v }
      | .start => { b with start := v }
    press k s = { s with io := { s.io with buttons := put true }
                         intr := { s.intr with pending := s.intr.pending ||| 0b10000 }
                         ctl := { s.ctl with stopped := false } } ∧
    release k s = { s with io := { s.io with buttons := put false } } ∧
    (k = .start → s.io.joypSel = 0b01 → (readByte (press k s) 0xFF00).getLsbD 3 = false)

/-- 60_exceptions.md R417. From the quiescent halt (a boundary with `halted` set, IE = 0 and not stopped) every step goes
on in it, and no CPU register, cartridge register or byte of memory changes. -/
def Obligations.QuiescentHaltStays : Prop :=
  ∀ (s : State), quiescentHalt s = true → ∃ t, step s = .next t ∧ quiescentHalt t = true ∧ t.regs = s.regs ∧
    t.mem = s.mem ∧ t.cart = s.cart ∧ t.ctl = { s.ctl with wait := 0 }

end
end

