-- ==== Sys2Proof/Laws/Bits.lean ====
section
/-! SUPPORT. The small laws of bit fields and byte order. -/

namespace Sys2Proof.Machine

theorem toNat_mkWord (h l : Byte) : (mkWord h l).toNat = h.toNat * 256 + l.toNat := by
  have := Nat.shiftLeft_add_eq_or_of_lt l.isLt h.toNat
  simp only [mkWord, BitVec.toNat_append]
  omega

theorem toNat_hiByte (w : Word) : (hiByte w).toNat = w.toNat / 256 := by
  have := w.isLt
  simp only [hiByte, BitVec.extractLsb'_toNat, Nat.shiftRight_eq_div_pow]
  omega

theorem toNat_loByte (w : Word) : (loByte w).toNat = w.toNat % 256 := by
  simp only [loByte, BitVec.extractLsb'_toNat, Nat.shiftRight_zero]

@[simp] theorem hiByte_mkWord (h l : Byte) : hiByte (mkWord h l) = h := by
  apply BitVec.eq_of_toNat_eq
  rw [toNat_hiByte, toNat_mkWord]
  omega

@[simp] theorem loByte_mkWord (h l : Byte) : loByte (mkWord h l) = l := by
  apply BitVec.eq_of_toNat_eq
  rw [toNat_loByte, toNat_mkWord]
  omega

@[simp] theorem mkWord_hi_lo (w : Word) : mkWord (hiByte w) (loByte w) = w := by
  apply BitVec.eq_of_toNat_eq
  rw [toNat_mkWord, toNat_hiByte, toNat_loByte]
  omega

@[simp] theorem toNat_trunc8 (n : Nat) : (trunc8 n).toNat = n % 256 := by
  simp [trunc8]

@[simp] theorem toNat_trunc16 (n : Nat) : (trunc16 n).toNat = n % 65536 := by
  simp [trunc16]

/-- `sext_16` as R9 writes it: `e` below 0x80, else `e + 0xFF00`. -/
theorem toNat_sext16 (e : Byte) :
    (sext16 e).toNat = if e.toNat < 0x80 then e.toNat else e.toNat + 0xFF00 := by
  have h := e.isLt
  simp only [sext16, BitVec.toNat_signExtend, BitVec.toNat_setWidth, BitVec.msb_eq_decide]
  by_cases h0 : e.toNat < 128
  · simp [h0, Nat.not_le.2 h0]
    omega
  · simp [h0, Nat.not_lt.1 h0]
    omega

/-- The values of a 3-bit field, for case splits. -/
theorem bv3_cases (y : BitVec 3) : y = 0 ∨ y = 1 ∨ y = 2 ∨ y = 3 ∨ y = 4 ∨ y = 5 ∨ y = 6 ∨ y = 7 := by
  revert y
  decide

/-- The values of a 2-bit field, for case splits. -/
theorem bv2_cases (p : BitVec 2) : p = 0 ∨ p = 1 ∨ p = 2 ∨ p = 3 := by
  revert p
  decide

end Sys2Proof.Machine
end

