-- ==== Sys2Proof/Laws/State.lean ====
section
/-!
SUPPORT. One lemma per field per update, so that no later proof unfolds a record update.
-/

namespace Sys2Proof.Machine

/-! `setPc` -/

@[simp] theorem State.setPc_a (s : State) (w : Word) : (s.setPc w).regs.a = s.regs.a := rfl
@[simp] theorem State.setPc_f (s : State) (w : Word) : (s.setPc w).regs.f = s.regs.f := rfl
@[simp] theorem State.setPc_b (s : State) (w : Word) : (s.setPc w).regs.b = s.regs.b := rfl
@[simp] theorem State.setPc_c (s : State) (w : Word) : (s.setPc w).regs.c = s.regs.c := rfl
@[simp] theorem State.setPc_d (s : State) (w : Word) : (s.setPc w).regs.d = s.regs.d := rfl
@[simp] theorem State.setPc_e (s : State) (w : Word) : (s.setPc w).regs.e = s.regs.e := rfl
@[simp] theorem State.setPc_h (s : State) (w : Word) : (s.setPc w).regs.h = s.regs.h := rfl
@[simp] theorem State.setPc_l (s : State) (w : Word) : (s.setPc w).regs.l = s.regs.l := rfl
@[simp] theorem State.setPc_sp (s : State) (w : Word) : (s.setPc w).regs.sp = s.regs.sp := rfl
@[simp] theorem State.setPc_pc (s : State) (w : Word) : (s.setPc w).regs.pc = w := rfl
@[simp] theorem State.setPc_ctl (s : State) (w : Word) : (s.setPc w).ctl = s.ctl := rfl
@[simp] theorem State.setPc_intr (s : State) (w : Word) : (s.setPc w).intr = s.intr := rfl
@[simp] theorem State.setPc_timer (s : State) (w : Word) : (s.setPc w).timer = s.timer := rfl
@[simp] theorem State.setPc_ppu (s : State) (w : Word) : (s.setPc w).ppu = s.ppu := rfl
@[simp] theorem State.setPc_io (s : State) (w : Word) : (s.setPc w).io = s.io := rfl
@[simp] theorem State.setPc_cart (s : State) (w : Word) : (s.setPc w).cart = s.cart := rfl
@[simp] theorem State.setPc_mem (s : State) (w : Word) : (s.setPc w).mem = s.mem := rfl
@[simp] theorem State.setPc_pixels (s : State) (w : Word) : (s.setPc w).pixels = s.pixels := rfl
@[simp] theorem State.setPc_params (s : State) (w : Word) : (s.setPc w).params = s.params := rfl

/-! `setSp` -/

@[simp] theorem State.setSp_a (s : State) (w : Word) : (s.setSp w).regs.a = s.regs.a := rfl
@[simp] theorem State.setSp_f (s : State) (w : Word) : (s.setSp w).regs.f = s.regs.f := rfl
@[simp] theorem State.setSp_b (s : State) (w : Word) : (s.setSp w).regs.b = s.regs.b := rfl
@[simp] theorem State.setSp_c (s : State) (w : Word) : (s.setSp w).regs.c = s.regs.c := rfl
@[simp] theorem State.setSp_d (s : State) (w : Word) : (s.setSp w).regs.d = s.regs.d := rfl
@[simp] theorem State.setSp_e (s : State) (w : Word) : (s.setSp w).regs.e = s.regs.e := rfl
@[simp] theorem State.setSp_h (s : State) (w : Word) : (s.setSp w).regs.h = s.regs.h := rfl
@[simp] theorem State.setSp_l (s : State) (w : Word) : (s.setSp w).regs.l = s.regs.l := rfl
@[simp] theorem State.setSp_sp (s : State) (w : Word) : (s.setSp w).regs.sp = w := rfl
@[simp] theorem State.setSp_pc (s : State) (w : Word) : (s.setSp w).regs.pc = s.regs.pc := rfl
@[simp] theorem State.setSp_ctl (s : State) (w : Word) : (s.setSp w).ctl = s.ctl := rfl
@[simp] theorem State.setSp_intr (s : State) (w : Word) : (s.setSp w).intr = s.intr := rfl
@[simp] theorem State.setSp_timer (s : State) (w : Word) : (s.setSp w).timer = s.timer := rfl
@[simp] theorem State.setSp_ppu (s : State) (w : Word) : (s.setSp w).ppu = s.ppu := rfl
@[simp] theorem State.setSp_io (s : State) (w : Word) : (s.setSp w).io = s.io := rfl
@[simp] theorem State.setSp_cart (s : State) (w : Word) : (s.setSp w).cart = s.cart := rfl
@[simp] theorem State.setSp_mem (s : State) (w : Word) : (s.setSp w).mem = s.mem := rfl
@[simp] theorem State.setSp_pixels (s : State) (w : Word) : (s.setSp w).pixels = s.pixels := rfl
@[simp] theorem State.setSp_params (s : State) (w : Word) : (s.setSp w).params = s.params := rfl

/-! `setBc` -/

@[simp] theorem State.setBc_a (s : State) (w : Word) : (s.setBc w).regs.a = s.regs.a := rfl
@[simp] theorem State.setBc_f (s : State) (w : Word) : (s.setBc w).regs.f = s.regs.f := rfl
@[simp] theorem State.setBc_b (s : State) (w : Word) : (s.setBc w).regs.b = hiByte w := rfl
@[simp] theorem State.setBc_c (s : State) (w : Word) : (s.setBc w).regs.c = loByte w := rfl
@[simp] theorem State.setBc_d (s : State) (w : Word) : (s.setBc w).regs.d = s.regs.d := rfl
@[simp] theorem State.setBc_e (s : State) (w : Word) : (s.setBc w).regs.e = s.regs.e := rfl
@[simp] theorem State.setBc_h (s : State) (w : Word) : (s.setBc w).regs.h = s.regs.h := rfl
@[simp] theorem State.setBc_l (s : State) (w : Word) : (s.setBc w).regs.l = s.regs.l := rfl
@[simp] theorem State.setBc_sp (s : State) (w : Word) : (s.setBc w).regs.sp = s.regs.sp := rfl
@[simp] theorem State.setBc_pc (s : State) (w : Word) : (s.setBc w).regs.pc = s.regs.pc := rfl
@[simp] theorem State.setBc_ctl (s : State) (w : Word) : (s.setBc w).ctl = s.ctl := rfl
@[simp] theorem State.setBc_intr (s : State) (w : Word) : (s.setBc w).intr = s.intr := rfl
@[simp] theorem State.setBc_timer (s : State) (w : Word) : (s.setBc w).timer = s.timer := rfl
@[simp] theorem State.setBc_ppu (s : State) (w : Word) : (s.setBc w).ppu = s.ppu := rfl
@[simp] theorem State.setBc_io (s : State) (w : Word) : (s.setBc w).io = s.io := rfl
@[simp] theorem State.setBc_cart (s : State) (w : Word) : (s.setBc w).cart = s.cart := rfl
@[simp] theorem State.setBc_mem (s : State) (w : Word) : (s.setBc w).mem = s.mem := rfl
@[simp] theorem State.setBc_pixels (s : State) (w : Word) : (s.setBc w).pixels = s.pixels := rfl
@[simp] theorem State.setBc_params (s : State) (w : Word) : (s.setBc w).params = s.params := rfl

/-! `setDe` -/

@[simp] theorem State.setDe_a (s : State) (w : Word) : (s.setDe w).regs.a = s.regs.a := rfl
@[simp] theorem State.setDe_f (s : State) (w : Word) : (s.setDe w).regs.f = s.regs.f := rfl
@[simp] theorem State.setDe_b (s : State) (w : Word) : (s.setDe w).regs.b = s.regs.b := rfl
@[simp] theorem State.setDe_c (s : State) (w : Word) : (s.setDe w).regs.c = s.regs.c := rfl
@[simp] theorem State.setDe_d (s : State) (w : Word) : (s.setDe w).regs.d = hiByte w := rfl
@[simp] theorem State.setDe_e (s : State) (w : Word) : (s.setDe w).regs.e = loByte w := rfl
@[simp] theorem State.setDe_h (s : State) (w : Word) : (s.setDe w).regs.h = s.regs.h := rfl
@[simp] theorem State.setDe_l (s : State) (w : Word) : (s.setDe w).regs.l = s.regs.l := rfl
@[simp] theorem State.setDe_sp (s : State) (w : Word) : (s.setDe w).regs.sp = s.regs.sp := rfl
@[simp] theorem State.setDe_pc (s : State) (w : Word) : (s.setDe w).regs.pc = s.regs.pc := rfl
@[simp] theorem State.setDe_ctl (s : State) (w : Word) : (s.setDe w).ctl = s.ctl := rfl
@[simp] theorem State.setDe_intr (s : State) (w : Word) : (s.setDe w).intr = s.intr := rfl
@[simp] theorem State.setDe_timer (s : State) (w : Word) : (s.setDe w).timer = s.timer := rfl
@[simp] theorem State.setDe_ppu (s : State) (w : Word) : (s.setDe w).ppu = s.ppu := rfl
@[simp] theorem State.setDe_io (s : State) (w : Word) : (s.setDe w).io = s.io := rfl
@[simp] theorem State.setDe_cart (s : State) (w : Word) : (s.setDe w).cart = s.cart := rfl
@[simp] theorem State.setDe_mem (s : State) (w : Word) : (s.setDe w).mem = s.mem := rfl
@[simp] theorem State.setDe_pixels (s : State) (w : Word) : (s.setDe w).pixels = s.pixels := rfl
@[simp] theorem State.setDe_params (s : State) (w : Word) : (s.setDe w).params = s.params := rfl

/-! `setHl` -/

@[simp] theorem State.setHl_a (s : State) (w : Word) : (s.setHl w).regs.a = s.regs.a := rfl
@[simp] theorem State.setHl_f (s : State) (w : Word) : (s.setHl w).regs.f = s.regs.f := rfl
@[simp] theorem State.setHl_b (s : State) (w : Word) : (s.setHl w).regs.b = s.regs.b := rfl
@[simp] theorem State.setHl_c (s : State) (w : Word) : (s.setHl w).regs.c = s.regs.c := rfl
@[simp] theorem State.setHl_d (s : State) (w : Word) : (s.setHl w).regs.d = s.regs.d := rfl
@[simp] theorem State.setHl_e (s : State) (w : Word) : (s.setHl w).regs.e = s.regs.e := rfl
@[simp] theorem State.setHl_h (s : State) (w : Word) : (s.setHl w).regs.h = hiByte w := rfl
@[simp] theorem State.setHl_l (s : State) (w : Word) : (s.setHl w).regs.l = loByte w := rfl
@[simp] theorem State.setHl_sp (s : State) (w : Word) : (s.setHl w).regs.sp = s.regs.sp := rfl
@[simp] theorem State.setHl_pc (s : State) (w : Word) : (s.setHl w).regs.pc = s.regs.pc := rfl
@[simp] theorem State.setHl_ctl (s : State) (w : Word) : (s.setHl w).ctl = s.ctl := rfl
@[simp] theorem State.setHl_intr (s : State) (w : Word) : (s.setHl w).intr = s.intr := rfl
@[simp] theorem State.setHl_timer (s : State) (w : Word) : (s.setHl w).timer = s.timer := rfl
@[simp] theorem State.setHl_ppu (s : State) (w : Word) : (s.setHl w).ppu = s.ppu := rfl
@[simp] theorem State.setHl_io (s : State) (w : Word) : (s.setHl w).io = s.io := rfl
@[simp] theorem State.setHl_cart (s : State) (w : Word) : (s.setHl w).cart = s.cart := rfl
@[simp] theorem State.setHl_mem (s : State) (w : Word) : (s.setHl w).mem = s.mem := rfl
@[simp] theorem State.setHl_pixels (s : State) (w : Word) : (s.setHl w).pixels = s.pixels := rfl
@[simp] theorem State.setHl_params (s : State) (w : Word) : (s.setHl w).params = s.params := rfl

/-! `setAf` -/

@[simp] theorem State.setAf_a (s : State) (w : Word) : (s.setAf w).regs.a = hiByte w := rfl
@[simp] theorem State.setAf_f (s : State) (w : Word) : (s.setAf w).regs.f = loByte w &&& flagByteMask := rfl
@[simp] theorem State.setAf_b (s : State) (w : Word) : (s.setAf w).regs.b = s.regs.b := rfl
@[simp] theorem State.setAf_c (s : State) (w : Word) : (s.setAf w).regs.c = s.regs.c := rfl
@[simp] theorem State.setAf_d (s : State) (w : Word) : (s.setAf w).regs.d = s.regs.d := rfl
@[simp] theorem State.setAf_e (s : State) (w : Word) : (s.setAf w).regs.e = s.regs.e := rfl
@[simp] theorem State.setAf_h (s : State) (w : Word) : (s.setAf w).regs.h = s.regs.h := rfl
@[simp] theorem State.setAf_l (s : State) (w : Word) : (s.setAf w).regs.l = s.regs.l := rfl
@[simp] theorem State.setAf_sp (s : State) (w : Word) : (s.setAf w).regs.sp = s.regs.sp := rfl
@[simp] theorem State.setAf_pc (s : State) (w : Word) : (s.setAf w).regs.pc = s.regs.pc := rfl
@[simp] theorem State.setAf_ctl (s : State) (w : Word) : (s.setAf w).ctl = s.ctl := rfl
@[simp] theorem State.setAf_intr (s : State) (w : Word) : (s.setAf w).intr = s.intr := rfl
@[simp] theorem State.setAf_timer (s : State) (w : Word) : (s.setAf w).timer = s.timer := rfl
@[simp] theorem State.setAf_ppu (s : State) (w : Word) : (s.setAf w).ppu = s.ppu := rfl
@[simp] theorem State.setAf_io (s : State) (w : Word) : (s.setAf w).io = s.io := rfl
@[simp] theorem State.setAf_cart (s : State) (w : Word) : (s.setAf w).cart = s.cart := rfl
@[simp] theorem State.setAf_mem (s : State) (w : Word) : (s.setAf w).mem = s.mem := rfl
@[simp] theorem State.setAf_pixels (s : State) (w : Word) : (s.setAf w).pixels = s.pixels := rfl
@[simp] theorem State.setAf_params (s : State) (w : Word) : (s.setAf w).params = s.params := rfl

/-! `setFlags` -/

@[simp] theorem State.setFlags_a (s : State) (f : Flags) : (s.setFlags f).regs.a = s.regs.a := rfl
@[simp] theorem State.setFlags_f (s : State) (f : Flags) : (s.setFlags f).regs.f = f.toByte := rfl
@[simp] theorem State.setFlags_b (s : State) (f : Flags) : (s.setFlags f).regs.b = s.regs.b := rfl
@[simp] theorem State.setFlags_c (s : State) (f : Flags) : (s.setFlags f).regs.c = s.regs.c := rfl
@[simp] theorem State.setFlags_d (s : State) (f : Flags) : (s.setFlags f).regs.d = s.regs.d := rfl
@[simp] theorem State.setFlags_e (s : State) (f : Flags) : (s.setFlags f).regs.e = s.regs.e := rfl
@[simp] theorem State.setFlags_h (s : State) (f : Flags) : (s.setFlags f).regs.h = s.regs.h := rfl
@[simp] theorem State.setFlags_l (s : State) (f : Flags) : (s.setFlags f).regs.l = s.regs.l := rfl
@[simp] theorem State.setFlags_sp (s : State) (f : Flags) : (s.setFlags f).regs.sp = s.regs.sp := rfl
@[simp] theorem State.setFlags_pc (s : State) (f : Flags) : (s.setFlags f).regs.pc = s.regs.pc := rfl
@[simp] theorem State.setFlags_ctl (s : State) (f : Flags) : (s.setFlags f).ctl = s.ctl := rfl
@[simp] theorem State.setFlags_intr (s : State) (f : Flags) : (s.setFlags f).intr = s.intr := rfl
@[simp] theorem State.setFlags_timer (s : State) (f : Flags) : (s.setFlags f).timer = s.timer := rfl
@[simp] theorem State.setFlags_ppu (s : State) (f : Flags) : (s.setFlags f).ppu = s.ppu := rfl
@[simp] theorem State.setFlags_io (s : State) (f : Flags) : (s.setFlags f).io = s.io := rfl
@[simp] theorem State.setFlags_cart (s : State) (f : Flags) : (s.setFlags f).cart = s.cart := rfl
@[simp] theorem State.setFlags_mem (s : State) (f : Flags) : (s.setFlags f).mem = s.mem := rfl
@[simp] theorem State.setFlags_pixels (s : State) (f : Flags) : (s.setFlags f).pixels = s.pixels := rfl
@[simp] theorem State.setFlags_params (s : State) (f : Flags) : (s.setFlags f).params = s.params := rfl

/-! `setWait` -/

@[simp] theorem State.setWait_ime (s : State) (v : Nat) : (s.setWait v).ctl.ime = s.ctl.ime := rfl
@[simp] theorem State.setWait_eiPending (s : State) (v : Nat) : (s.setWait v).ctl.eiPending = s.ctl.eiPending := rfl
@[simp] theorem State.setWait_halted (s : State) (v : Nat) : (s.setWait v).ctl.halted = s.ctl.halted := rfl
@[simp] theorem State.setWait_stopped (s : State) (v : Nat) : (s.setWait v).ctl.stopped = s.ctl.stopped := rfl
@[simp] theorem State.setWait_haltBugLatch (s : State) (v : Nat) :
    (s.setWait v).ctl.haltBugLatch = s.ctl.haltBugLatch := rfl
@[simp] theorem State.setWait_wait (s : State) (v : Nat) : (s.setWait v).ctl.wait = v := rfl
@[simp] theorem State.setWait_fatal (s : State) (v : Nat) : (s.setWait v).ctl.fatal = s.ctl.fatal := rfl
@[simp] theorem State.setWait_regs (s : State) (v : Nat) : (s.setWait v).regs = s.regs := rfl
@[simp] theorem State.setWait_intr (s : State) (v : Nat) : (s.setWait v).intr = s.intr := rfl
@[simp] theorem State.setWait_timer (s : State) (v : Nat) : (s.setWait v).timer = s.timer := rfl
@[simp] theorem State.setWait_ppu (s : State) (v : Nat) : (s.setWait v).ppu = s.ppu := rfl
@[simp] theorem State.setWait_io (s : State) (v : Nat) : (s.setWait v).io = s.io := rfl
@[simp] theorem State.setWait_cart (s : State) (v : Nat) : (s.setWait v).cart = s.cart := rfl
@[simp] theorem State.setWait_mem (s : State) (v : Nat) : (s.setWait v).mem = s.mem := rfl
@[simp] theorem State.setWait_pixels (s : State) (v : Nat) : (s.setWait v).pixels = s.pixels := rfl
@[simp] theorem State.setWait_params (s : State) (v : Nat) : (s.setWait v).params = s.params := rfl

/-! `setIme` -/

@[simp] theorem State.setIme_ime (s : State) (v : Bool) : (s.setIme v).ctl.ime = v := rfl
@[simp] theorem State.setIme_eiPending (s : State) (v : Bool) : (s.setIme v).ctl.eiPending = s.ctl.eiPending := rfl
@[simp] theorem State.setIme_halted (s : State) (v : Bool) : (s.setIme v).ctl.halted = s.ctl.halted := rfl
@[simp] theorem State.setIme_stopped (s : State) (v : Bool) : (s.setIme v).ctl.stopped = s.ctl.stopped := rfl
@[simp] theorem State.setIme_haltBugLatch (s : State) (v : Bool) :
    (s.setIme v).ctl.haltBugLatch = s.ctl.haltBugLatch := rfl
@[simp] theorem State.setIme_wait (s : State) (v : Bool) : (s.setIme v).ctl.wait = s.ctl.wait := rfl
@[simp] theorem State.setIme_fatal (s : State) (v : Bool) : (s.setIme v).ctl.fatal = s.ctl.fatal := rfl
@[simp] theorem State.setIme_regs (s : State) (v : Bool) : (s.setIme v).regs = s.regs := rfl
@[simp] theorem State.setIme_intr (s : State) (v : Bool) : (s.setIme v).intr = s.intr := rfl
@[simp] theorem State.setIme_timer (s : State) (v : Bool) : (s.setIme v).timer = s.timer := rfl
@[simp] theorem State.setIme_ppu (s : State) (v : Bool) : (s.setIme v).ppu = s.ppu := rfl
@[simp] theorem State.setIme_io (s : State) (v : Bool) : (s.setIme v).io = s.io := rfl
@[simp] theorem State.setIme_cart (s : State) (v : Bool) : (s.setIme v).cart = s.cart := rfl
@[simp] theorem State.setIme_mem (s : State) (v : Bool) : (s.setIme v).mem = s.mem := rfl
@[simp] theorem State.setIme_pixels (s : State) (v : Bool) : (s.setIme v).pixels = s.pixels := rfl
@[simp] theorem State.setIme_params (s : State) (v : Bool) : (s.setIme v).params = s.params := rfl

/-! `setEiPending` -/

@[simp] theorem State.setEiPending_ime (s : State) (v : Bool) : (s.setEiPending v).ctl.ime = s.ctl.ime := rfl
@[simp] theorem State.setEiPending_eiPending (s : State) (v : Bool) : (s.setEiPending v).ctl.eiPending = v := rfl
@[simp] theorem State.setEiPending_halted (s : State) (v : Bool) : (s.setEiPending v).ctl.halted = s.ctl.halted := rfl
@[simp] theorem State.setEiPending_stopped (s : State) (v : Bool) :
    (s.setEiPending v).ctl.stopped = s.ctl.stopped := rfl
@[simp] theorem State.setEiPending_haltBugLatch (s : State) (v : Bool) :
    (s.setEiPending v).ctl.haltBugLatch = s.ctl.haltBugLatch := rfl
@[simp] theorem State.setEiPending_wait (s : State) (v : Bool) : (s.setEiPending v).ctl.wait = s.ctl.wait := rfl
@[simp] theorem State.setEiPending_fatal (s : State) (v : Bool) : (s.setEiPending v).ctl.fatal = s.ctl.fatal := rfl
@[simp] theorem State.setEiPending_regs (s : State) (v : Bool) : (s.setEiPending v).regs = s.regs := rfl
@[simp] theorem State.setEiPending_intr (s : State) (v : Bool) : (s.setEiPending v).intr = s.intr := rfl
@[simp] theorem State.setEiPending_timer (s : State) (v : Bool) : (s.setEiPending v).timer = s.timer := rfl
@[simp] theorem State.setEiPending_ppu (s : State) (v : Bool) : (s.setEiPending v).ppu = s.ppu := rfl
@[simp] theorem State.setEiPending_io (s : State) (v : Bool) : (s.setEiPending v).io = s.io := rfl
@[simp] theorem State.setEiPending_cart (s : State) (v : Bool) : (s.setEiPending v).cart = s.cart := rfl
@[simp] theorem State.setEiPending_mem (s : State) (v : Bool) : (s.setEiPending v).mem = s.mem := rfl
@[simp] theorem State.setEiPending_pixels (s : State) (v : Bool) : (s.setEiPending v).pixels = s.pixels := rfl
@[simp] theorem State.setEiPending_params (s : State) (v : Bool) : (s.setEiPending v).params = s.params := rfl

/-! `setHalted` -/

@[simp] theorem State.setHalted_ime (s : State) (v : Bool) : (s.setHalted v).ctl.ime = s.ctl.ime := rfl
@[simp] theorem State.setHalted_eiPending (s : State) (v : Bool) :
    (s.setHalted v).ctl.eiPending = s.ctl.eiPending := rfl
@[simp] theorem State.setHalted_halted (s : State) (v : Bool) : (s.setHalted v).ctl.halted = v := rfl
@[simp] theorem State.setHalted_stopped (s : State) (v : Bool) : (s.setHalted v).ctl.stopped = s.ctl.stopped := rfl
@[simp] theorem State.setHalted_haltBugLatch (s : State) (v : Bool) :
    (s.setHalted v).ctl.haltBugLatch = s.ctl.haltBugLatch := rfl
@[simp] theorem State.setHalted_wait (s : State) (v : Bool) : (s.setHalted v).ctl.wait = s.ctl.wait := rfl
@[simp] theorem State.setHalted_fatal (s : State) (v : Bool) : (s.setHalted v).ctl.fatal = s.ctl.fatal := rfl
@[simp] theorem State.setHalted_regs (s : State) (v : Bool) : (s.setHalted v).regs = s.regs := rfl
@[simp] theorem State.setHalted_intr (s : State) (v : Bool) : (s.setHalted v).intr = s.intr := rfl
@[simp] theorem State.setHalted_timer (s : State) (v : Bool) : (s.setHalted v).timer = s.timer := rfl
@[simp] theorem State.setHalted_ppu (s : State) (v : Bool) : (s.setHalted v).ppu = s.ppu := rfl
@[simp] theorem State.setHalted_io (s : State) (v : Bool) : (s.setHalted v).io = s.io := rfl
@[simp] theorem State.setHalted_cart (s : State) (v : Bool) : (s.setHalted v).cart = s.cart := rfl
@[simp] theorem State.setHalted_mem (s : State) (v : Bool) : (s.setHalted v).mem = s.mem := rfl
@[simp] theorem State.setHalted_pixels (s : State) (v : Bool) : (s.setHalted v).pixels = s.pixels := rfl
@[simp] theorem State.setHalted_params (s : State) (v : Bool) : (s.setHalted v).params = s.params := rfl

/-! `setStopped` -/

@[simp] theorem State.setStopped_ime (s : State) (v : Bool) : (s.setStopped v).ctl.ime = s.ctl.ime := rfl
@[simp] theorem State.setStopped_eiPending (s : State) (v : Bool) :
    (s.setStopped v).ctl.eiPending = s.ctl.eiPending := rfl
@[simp] theorem State.setStopped_halted (s : State) (v : Bool) : (s.setStopped v).ctl.halted = s.ctl.halted := rfl
@[simp] theorem State.setStopped_stopped (s : State) (v : Bool) : (s.setStopped v).ctl.stopped = v := rfl
@[simp] theorem State.setStopped_haltBugLatch (s : State) (v : Bool) :
    (s.setStopped v).ctl.haltBugLatch = s.ctl.haltBugLatch := rfl
@[simp] theorem State.setStopped_wait (s : State) (v : Bool) : (s.setStopped v).ctl.wait = s.ctl.wait := rfl
@[simp] theorem State.setStopped_fatal (s : State) (v : Bool) : (s.setStopped v).ctl.fatal = s.ctl.fatal := rfl
@[simp] theorem State.setStopped_regs (s : State) (v : Bool) : (s.setStopped v).regs = s.regs := rfl
@[simp] theorem State.setStopped_intr (s : State) (v : Bool) : (s.setStopped v).intr = s.intr := rfl
@[simp] theorem State.setStopped_timer (s : State) (v : Bool) : (s.setStopped v).timer = s.timer := rfl
@[simp] theorem State.setStopped_ppu (s : State) (v : Bool) : (s.setStopped v).ppu = s.ppu := rfl
@[simp] theorem State.setStopped_io (s : State) (v : Bool) : (s.setStopped v).io = s.io := rfl
@[simp] theorem State.setStopped_cart (s : State) (v : Bool) : (s.setStopped v).cart = s.cart := rfl
@[simp] theorem State.setStopped_mem (s : State) (v : Bool) : (s.setStopped v).mem = s.mem := rfl
@[simp] theorem State.setStopped_pixels (s : State) (v : Bool) : (s.setStopped v).pixels = s.pixels := rfl
@[simp] theorem State.setStopped_params (s : State) (v : Bool) : (s.setStopped v).params = s.params := rfl

/-! `setHaltBugLatch` -/

@[simp] theorem State.setHaltBugLatch_ime (s : State) (v : Bool) : (s.setHaltBugLatch v).ctl.ime = s.ctl.ime := rfl
@[simp] theorem State.setHaltBugLatch_eiPending (s : State) (v : Bool) :
    (s.setHaltBugLatch v).ctl.eiPending = s.ctl.eiPending := rfl
@[simp] theorem State.setHaltBugLatch_halted (s : State) (v : Bool) :
    (s.setHaltBugLatch v).ctl.halted = s.ctl.halted := rfl
@[simp] theorem State.setHaltBugLatch_stopped (s : State) (v : Bool) :
    (s.setHaltBugLatch v).ctl.stopped = s.ctl.stopped := rfl
@[simp] theorem State.setHaltBugLatch_haltBugLatch (s : State) (v : Bool) :
    (s.setHaltBugLatch v).ctl.haltBugLatch = v := rfl
@[simp] theorem State.setHaltBugLatch_wait (s : State) (v : Bool) : (s.setHaltBugLatch v).ctl.wait = s.ctl.wait := rfl
@[simp] theorem State.setHaltBugLatch_fatal (s : State) (v : Bool) :
    (s.setHaltBugLatch v).ctl.fatal = s.ctl.fatal := rfl
@[simp] theorem State.setHaltBugLatch_regs (s : State) (v : Bool) : (s.setHaltBugLatch v).regs = s.regs := rfl
@[simp] theorem State.setHaltBugLatch_intr (s : State) (v : Bool) : (s.setHaltBugLatch v).intr = s.intr := rfl
@[simp] theorem State.setHaltBugLatch_timer (s : State) (v : Bool) : (s.setHaltBugLatch v).timer = s.timer := rfl
@[simp] theorem State.setHaltBugLatch_ppu (s : State) (v : Bool) : (s.setHaltBugLatch v).ppu = s.ppu := rfl
@[simp] theorem State.setHaltBugLatch_io (s : State) (v : Bool) : (s.setHaltBugLatch v).io = s.io := rfl
@[simp] theorem State.setHaltBugLatch_cart (s : State) (v : Bool) : (s.setHaltBugLatch v).cart = s.cart := rfl
@[simp] theorem State.setHaltBugLatch_mem (s : State) (v : Bool) : (s.setHaltBugLatch v).mem = s.mem := rfl
@[simp] theorem State.setHaltBugLatch_pixels (s : State) (v : Bool) : (s.setHaltBugLatch v).pixels = s.pixels := rfl
@[simp] theorem State.setHaltBugLatch_params (s : State) (v : Bool) : (s.setHaltBugLatch v).params = s.params := rfl

/-! `fetched` -/

@[simp] theorem State.fetched_a (s : State) (n : Nat) : (s.fetched n).regs.a = s.regs.a := rfl
@[simp] theorem State.fetched_f (s : State) (n : Nat) : (s.fetched n).regs.f = s.regs.f := rfl
@[simp] theorem State.fetched_b (s : State) (n : Nat) : (s.fetched n).regs.b = s.regs.b := rfl
@[simp] theorem State.fetched_c (s : State) (n : Nat) : (s.fetched n).regs.c = s.regs.c := rfl
@[simp] theorem State.fetched_d (s : State) (n : Nat) : (s.fetched n).regs.d = s.regs.d := rfl
@[simp] theorem State.fetched_e (s : State) (n : Nat) : (s.fetched n).regs.e = s.regs.e := rfl
@[simp] theorem State.fetched_h (s : State) (n : Nat) : (s.fetched n).regs.h = s.regs.h := rfl
@[simp] theorem State.fetched_l (s : State) (n : Nat) : (s.fetched n).regs.l = s.regs.l := rfl
@[simp] theorem State.fetched_sp (s : State) (n : Nat) : (s.fetched n).regs.sp = s.regs.sp := rfl
@[simp] theorem State.fetched_pc (s : State) (n : Nat) :
    (s.fetched n).regs.pc = s.regs.pc + s.opcodeStep + trunc16 (n - 1) := rfl
@[simp] theorem State.fetched_ime (s : State) (n : Nat) : (s.fetched n).ctl.ime = s.ctl.ime := rfl
@[simp] theorem State.fetched_eiPending (s : State) (n : Nat) : (s.fetched n).ctl.eiPending = s.ctl.eiPending := rfl
@[simp] theorem State.fetched_halted (s : State) (n : Nat) : (s.fetched n).ctl.halted = s.ctl.halted := rfl
@[simp] theorem State.fetched_stopped (s : State) (n : Nat) : (s.fetched n).ctl.stopped = s.ctl.stopped := rfl
@[simp] theorem State.fetched_haltBugLatch (s : State) (n : Nat) : (s.fetched n).ctl.haltBugLatch = false := rfl
@[simp] theorem State.fetched_wait (s : State) (n : Nat) : (s.fetched n).ctl.wait = s.ctl.wait := rfl
@[simp] theorem State.fetched_fatal (s : State) (n : Nat) : (s.fetched n).ctl.fatal = s.ctl.fatal := rfl
@[simp] theorem State.fetched_intr (s : State) (n : Nat) : (s.fetched n).intr = s.intr := rfl
@[simp] theorem State.fetched_timer (s : State) (n : Nat) : (s.fetched n).timer = s.timer := rfl
@[simp] theorem State.fetched_ppu (s : State) (n : Nat) : (s.fetched n).ppu = s.ppu := rfl
@[simp] theorem State.fetched_io (s : State) (n : Nat) : (s.fetched n).io = s.io := rfl
@[simp] theorem State.fetched_cart (s : State) (n : Nat) : (s.fetched n).cart = s.cart := rfl
@[simp] theorem State.fetched_mem (s : State) (n : Nat) : (s.fetched n).mem = s.mem := rfl
@[simp] theorem State.fetched_pixels (s : State) (n : Nat) : (s.fetched n).pixels = s.pixels := rfl
@[simp] theorem State.fetched_params (s : State) (n : Nat) : (s.fetched n).params = s.params := rfl
@[simp] theorem State.fetched_view_bc (s : State) (n : Nat) : (s.fetched n).bc = s.bc := rfl
@[simp] theorem State.fetched_view_de (s : State) (n : Nat) : (s.fetched n).de = s.de := rfl
@[simp] theorem State.fetched_view_hl (s : State) (n : Nat) : (s.fetched n).hl = s.hl := rfl
@[simp] theorem State.fetched_view_af (s : State) (n : Nat) : (s.fetched n).af = s.af := rfl
@[simp] theorem State.fetched_view_flags (s : State) (n : Nat) : (s.fetched n).flags = s.flags := rfl
@[simp] theorem State.fetched_reg (s : State) (n : Nat) (r : Reg8) :
    (s.fetched n).reg r = s.reg r := by
  cases r <;> rfl
@[simp] theorem State.fetched_pair (s : State) (n : Nat) (p : Pair) :
    (s.fetched n).pair p = s.pair p := by
  cases p <;> rfl
@[simp] theorem State.fetched_stackPair (s : State) (n : Nat) (p : StackPair) :
    (s.fetched n).stackPair p = s.stackPair p := by
  cases p <;> rfl

/-! `setReg`, `setPair`, `setStackPair` -/

@[simp] theorem State.setReg_f (s : State) (r : Reg8) (v : Byte) :
    (s.setReg r v).regs.f = s.regs.f := by
  cases r <;> rfl
@[simp] theorem State.setReg_sp (s : State) (r : Reg8) (v : Byte) :
    (s.setReg r v).regs.sp = s.regs.sp := by
  cases r <;> rfl
@[simp] theorem State.setReg_pc (s : State) (r : Reg8) (v : Byte) :
    (s.setReg r v).regs.pc = s.regs.pc := by
  cases r <;> rfl
@[simp] theorem State.setReg_ctl (s : State) (r : Reg8) (v : Byte) : (s.setReg r v).ctl = s.ctl := by
  cases r <;> rfl
@[simp] theorem State.setReg_intr (s : State) (r : Reg8) (v : Byte) :
    (s.setReg r v).intr = s.intr := by
  cases r <;> rfl
@[simp] theorem State.setReg_timer (s : State) (r : Reg8) (v : Byte) :
    (s.setReg r v).timer = s.timer := by
  cases r <;> rfl
@[simp] theorem State.setReg_ppu (s : State) (r : Reg8) (v : Byte) : (s.setReg r v).ppu = s.ppu := by
  cases r <;> rfl
@[simp] theorem State.setReg_io (s : State) (r : Reg8) (v : Byte) : (s.setReg r v).io = s.io := by
  cases r <;> rfl
@[simp] theorem State.setReg_cart (s : State) (r : Reg8) (v : Byte) :
    (s.setReg r v).cart = s.cart := by
  cases r <;> rfl
@[simp] theorem State.setReg_mem (s : State) (r : Reg8) (v : Byte) : (s.setReg r v).mem = s.mem := by
  cases r <;> rfl
@[simp] theorem State.setReg_pixels (s : State) (r : Reg8) (v : Byte) :
    (s.setReg r v).pixels = s.pixels := by
  cases r <;> rfl
@[simp] theorem State.setReg_params (s : State) (r : Reg8) (v : Byte) :
    (s.setReg r v).params = s.params := by
  cases r <;> rfl
@[simp] theorem State.setPair_a (s : State) (p : Pair) (v : Word) :
    (s.setPair p v).regs.a = s.regs.a := by
  cases p <;> rfl
@[simp] theorem State.setPair_f (s : State) (p : Pair) (v : Word) :
    (s.setPair p v).regs.f = s.regs.f := by
  cases p <;> rfl
@[simp] theorem State.setPair_pc (s : State) (p : Pair) (v : Word) :
    (s.setPair p v).regs.pc = s.regs.pc := by
  cases p <;> rfl
@[simp] theorem State.setPair_ctl (s : State) (p : Pair) (v : Word) :
    (s.setPair p v).ctl = s.ctl := by
  cases p <;> rfl
@[simp] theorem State.setPair_intr (s : State) (p : Pair) (v : Word) :
    (s.setPair p v).intr = s.intr := by
  cases p <;> rfl
@[simp] theorem State.setPair_timer (s : State) (p : Pair) (v : Word) :
    (s.setPair p v).timer = s.timer := by
  cases p <;> rfl
@[simp] theorem State.setPair_ppu (s : State) (p : Pair) (v : Word) :
    (s.setPair p v).ppu = s.ppu := by
  cases p <;> rfl
@[simp] theorem State.setPair_io (s : State) (p : Pair) (v : Word) : (s.setPair p v).io = s.io := by
  cases p <;> rfl
@[simp] theorem State.setPair_cart (s : State) (p : Pair) (v : Word) :
    (s.setPair p v).cart = s.cart := by
  cases p <;> rfl
@[simp] theorem State.setPair_mem (s : State) (p : Pair) (v : Word) :
    (s.setPair p v).mem = s.mem := by
  cases p <;> rfl
@[simp] theorem State.setPair_pixels (s : State) (p : Pair) (v : Word) :
    (s.setPair p v).pixels = s.pixels := by
  cases p <;> rfl
@[simp] theorem State.setPair_params (s : State) (p : Pair) (v : Word) :
    (s.setPair p v).params = s.params := by
  cases p <;> rfl
@[simp] theorem State.setStackPair_sp (s : State) (p : StackPair) (v : Word) :
    (s.setStackPair p v).regs.sp = s.regs.sp := by
  cases p <;> rfl
@[simp] theorem State.setStackPair_pc (s : State) (p : StackPair) (v : Word) :
    (s.setStackPair p v).regs.pc = s.regs.pc := by
  cases p <;> rfl
@[simp] theorem State.setStackPair_ctl (s : State) (p : StackPair) (v : Word) :
    (s.setStackPair p v).ctl = s.ctl := by
  cases p <;> rfl
@[simp] theorem State.setStackPair_intr (s : State) (p : StackPair) (v : Word) :
    (s.setStackPair p v).intr = s.intr := by
  cases p <;> rfl
@[simp] theorem State.setStackPair_timer (s : State) (p : StackPair) (v : Word) :
    (s.setStackPair p v).timer = s.timer := by
  cases p <;> rfl
@[simp] theorem State.setStackPair_ppu (s : State) (p : StackPair) (v : Word) :
    (s.setStackPair p v).ppu = s.ppu := by
  cases p <;> rfl
@[simp] theorem State.setStackPair_io (s : State) (p : StackPair) (v : Word) :
    (s.setStackPair p v).io = s.io := by
  cases p <;> rfl
@[simp] theorem State.setStackPair_cart (s : State) (p : StackPair) (v : Word) :
    (s.setStackPair p v).cart = s.cart := by
  cases p <;> rfl
@[simp] theorem State.setStackPair_mem (s : State) (p : StackPair) (v : Word) :
    (s.setStackPair p v).mem = s.mem := by
  cases p <;> rfl
@[simp] theorem State.setStackPair_pixels (s : State) (p : StackPair) (v : Word) :
    (s.setStackPair p v).pixels = s.pixels := by
  cases p <;> rfl
@[simp] theorem State.setStackPair_params (s : State) (p : StackPair) (v : Word) :
    (s.setStackPair p v).params = s.params := by
  cases p <;> rfl

theorem State.reg_setReg (s : State) (r r' : Reg8) (v : Byte) :
    (s.setReg r v).reg r' = if r' = r then v else s.reg r' := by
  cases r <;> cases r' <;> rfl

@[simp] theorem State.reg_setReg_same (s : State) (r : Reg8) (v : Byte) : (s.setReg r v).reg r = v := by
  cases r <;> rfl

@[simp] theorem State.flags_setReg (s : State) (r : Reg8) (v : Byte) : (s.setReg r v).flags = s.flags := by
  cases r <;> rfl

@[simp] theorem State.reg_setFlags (s : State) (f : Flags) (r : Reg8) : (s.setFlags f).reg r = s.reg r := by
  cases r <;> rfl

@[simp] theorem State.reg_setPc (s : State) (w : Word) (r : Reg8) : (s.setPc w).reg r = s.reg r := by
  cases r <;> rfl

@[simp] theorem State.reg_setSp (s : State) (w : Word) (r : Reg8) : (s.setSp w).reg r = s.reg r := by
  cases r <;> rfl

@[simp] theorem State.reg_setWait (s : State) (n : Nat) (r : Reg8) : (s.setWait n).reg r = s.reg r := by
  cases r <;> rfl

@[simp] theorem State.pair_setPair_same (s : State) (p : Pair) (w : Word) : (s.setPair p w).pair p = w := by
  cases p <;> simp [State.setPair, State.pair, State.bc, State.de, State.hl, State.setBc, State.setDe, State.setHl,
    State.setSp]

/-- The flags byte holds exactly the four flags (R33). -/
@[simp] theorem Flags.ofByte_toByte (f : Flags) : Flags.ofByte f.toByte = f := by
  obtain ⟨z, n, h, c⟩ := f
  cases z <;> cases n <;> cases h <;> cases c <;> rfl

@[simp] theorem State.flags_setFlags (s : State) (f : Flags) : (s.setFlags f).flags = f :=
  Flags.ofByte_toByte f

/-- The low nibble of a written flags byte is 0 (R34). -/
@[simp] theorem Flags.toByte_low (f : Flags) : f.toByte &&& 0x0F = 0 := by
  obtain ⟨z, n, h, c⟩ := f
  cases z <;> cases n <;> cases h <;> cases c <;> rfl

/-- A masked flags byte has its low nibble 0 (R34). -/
@[simp] theorem flagByteMask_low (v : Byte) : v &&& flagByteMask &&& 0x0F = 0 := by
  rw [BitVec.and_assoc]
  simp [flagByteMask]

/-- Two states are equal when their units are. -/
theorem State.ext_units {s t : State} (h1 : s.regs = t.regs) (h2 : s.ctl = t.ctl) (h3 : s.intr = t.intr)
    (h4 : s.timer = t.timer) (h5 : s.ppu = t.ppu) (h6 : s.io = t.io) (h7 : s.cart = t.cart) (h8 : s.mem = t.mem)
    (h9 : s.pixels = t.pixels) (h10 : s.params = t.params) : s = t := by
  cases s; cases t; simp_all

end Sys2Proof.Machine
end

