-- ==== Sys2Proof/Laws/Store.lean ====
section
/-! SUPPORT. The laws of sparse stores: read after write, the canonical form kept, equal contents are equal lists. -/

namespace Sys2Proof.Machine

variable {n : Nat} {st : List (Nat × BitVec n)}

@[simp] theorem Store.read_nil (a : Nat) : Store.read ([] : List (Nat × BitVec n)) a = 0 := rfl

theorem Store.read_erase_same (st : List (Nat × BitVec n)) (a : Nat) :
    Store.read (Store.erase st a) a = Store.unlisted n := by
  induction st with
  | nil => rfl
  | cons c t ih =>
    obtain ⟨k, v⟩ := c
    by_cases h : k = a <;> simp [Store.erase, Store.read, h, ih]

theorem Store.read_erase_ne (st : List (Nat × BitVec n)) {a b : Nat} (hab : b ≠ a) :
    Store.read (Store.erase st a) b = Store.read st b := by
  induction st with
  | nil => rfl
  | cons c t ih =>
    obtain ⟨k, v⟩ := c
    by_cases h : k = a
    · subst h
      simp [Store.erase, Store.read, ih, Ne.symm hab]
    · rw [Store.erase, if_neg h, Store.read, Store.read, ih]

theorem Store.read_insert_same (st : List (Nat × BitVec n)) (a : Nat) (v : BitVec n) :
    Store.read (Store.insert st a v) a = v := by
  induction st with
  | nil => simp [Store.insert, Store.read]
  | cons c t ih =>
    obtain ⟨k, w⟩ := c
    unfold Store.insert
    split_ifs with h1 h2
    · simp [Store.read]
    · simp [Store.read]
    · simp [Store.read, Ne.symm h2, ih]

theorem Store.read_insert_ne (st : List (Nat × BitVec n)) {a b : Nat} (v : BitVec n) (hab : b ≠ a) :
    Store.read (Store.insert st a v) b = Store.read st b := by
  induction st with
  | nil => simp [Store.insert, Store.read, Ne.symm hab]
  | cons c t ih =>
    obtain ⟨k, w⟩ := c
    unfold Store.insert
    split_ifs with h1 h2
    · simp [Store.read, Ne.symm hab]
    · subst h2
      simp [Store.read, Ne.symm hab]
    · by_cases hk : k = b <;> simp [Store.read, hk, ih]

/-- A read after a write to the same key gives the value written. -/
@[simp] theorem Store.read_write_same (st : List (Nat × BitVec n)) (a : Nat) (v : BitVec n) :
    Store.read (Store.write st a v) a = v := by
  unfold Store.write
  split_ifs with h
  · rw [Store.read_erase_same, h]
  · exact Store.read_insert_same st a v

/-- A write leaves every other key alone. -/
theorem Store.read_write_ne (st : List (Nat × BitVec n)) {a b : Nat} (v : BitVec n) (hab : b ≠ a) :
    Store.read (Store.write st a v) b = Store.read st b := by
  unfold Store.write
  split_ifs with h
  · exact Store.read_erase_ne st hab
  · exact Store.read_insert_ne st v hab

theorem Store.read_write (st : List (Nat × BitVec n)) (a b : Nat) (v : BitVec n) :
    Store.read (Store.write st a v) b = if b = a then v else Store.read st b := by
  split_ifs with h
  · rw [h, Store.read_write_same]
  · exact Store.read_write_ne st v h

theorem Store.wfFrom_mono {lo lo' : Nat} (hl : lo' ≤ lo) (h : Store.wfFrom lo st = true) :
    Store.wfFrom lo' st = true := by
  cases st with
  | nil => rfl
  | cons c t =>
    obtain ⟨k, v⟩ := c
    simp only [Store.wfFrom, Bool.and_eq_true, decide_eq_true_eq] at h ⊢
    exact ⟨⟨le_trans hl h.1.1, h.1.2⟩, h.2⟩

theorem Store.erase_wfFrom {lo : Nat} (a : Nat) (h : Store.wfFrom lo st = true) :
    Store.wfFrom lo (Store.erase st a) = true := by
  induction st generalizing lo with
  | nil => rfl
  | cons c t ih =>
    obtain ⟨k, v⟩ := c
    simp only [Store.wfFrom, Bool.and_eq_true, decide_eq_true_eq] at h
    unfold Store.erase
    split_ifs with hk
    · exact Store.wfFrom_mono (by omega) (ih h.2)
    · simp only [Store.wfFrom, Bool.and_eq_true, decide_eq_true_eq]
      exact ⟨h.1, ih h.2⟩

theorem Store.insert_wfFrom {lo a : Nat} {v : BitVec n} (hv : v ≠ Store.unlisted n) (ha : lo ≤ a)
    (h : Store.wfFrom lo st = true) : Store.wfFrom lo (Store.insert st a v) = true := by
  induction st generalizing lo with
  | nil => simp [Store.insert, Store.wfFrom, ha, hv]
  | cons c t ih =>
    obtain ⟨k, w⟩ := c
    simp only [Store.wfFrom, Bool.and_eq_true, decide_eq_true_eq] at h
    unfold Store.insert
    split_ifs with h1 h2
    · simp only [Store.wfFrom, Bool.and_eq_true, decide_eq_true_eq]
      exact ⟨⟨ha, hv⟩, ⟨by omega, h.1.2⟩, h.2⟩
    · subst h2
      simp only [Store.wfFrom, Bool.and_eq_true, decide_eq_true_eq]
      exact ⟨⟨ha, hv⟩, h.2⟩
    · simp only [Store.wfFrom, Bool.and_eq_true, decide_eq_true_eq]
      exact ⟨h.1, ih (by omega) h.2⟩

/-- A write keeps the canonical form. -/
theorem Store.write_wf (a : Nat) (v : BitVec n) (h : Store.wf st = true) : Store.wf (Store.write st a v) = true := by
  unfold Store.write
  split_ifs with hv
  · exact Store.erase_wfFrom a h
  · exact Store.insert_wfFrom hv (Nat.zero_le a) h

/-- `ofList` gives the canonical form. -/
theorem Store.ofList_wf (keep : Nat → Bool) (cells : List (Nat × BitVec n)) :
    Store.wf (Store.ofList keep cells) = true := by
  unfold Store.ofList
  suffices H : ∀ st : List (Nat × BitVec n), Store.wf st = true →
      Store.wf (cells.foldl (fun st c => if keep c.1 then Store.write st c.1 c.2 else st) st) = true from H [] rfl
  induction cells with
  | nil => exact fun st h => h
  | cons c t ih =>
    intro st h
    refine ih _ ?_
    dsimp only
    split_ifs
    · exact Store.write_wf _ _ h
    · exact h

/-- What `ofList` reads: the last pair given for an admitted key, else what an unlisted key reads as. -/
theorem Store.read_ofList (keep : Nat → Bool) (cells : List (Nat × BitVec n)) (k : Nat) :
    Store.read (Store.ofList keep cells) k =
      if keep k then ((cells.filter (fun c => c.1 = k)).getLast?.map Prod.snd).getD (Store.unlisted n)
      else Store.unlisted n := by
  unfold Store.ofList
  induction cells using List.reverseRecOn with
  | nil => split_ifs <;> rfl
  | append_singleton t c ih =>
    obtain ⟨j, v⟩ := c
    rw [List.foldl_concat, List.filter_append]
    by_cases hj : j = k
    · subst hj
      cases hk : keep j <;> simp [hk, ih]
    · have hr : ∀ w, Store.read (Store.write w j v) k = Store.read w k := fun w => Store.read_write_ne w v (Ne.symm hj)
      cases keep j <;> simp [hj, hr, ih]

theorem Store.mem_erase {a : Nat} {c : Nat × BitVec n} (h : c ∈ Store.erase st a) : c ∈ st := by
  induction st with
  | nil => exact h
  | cons d t ih =>
    obtain ⟨k, v⟩ := d
    unfold Store.erase at h
    split_ifs at h
    · exact List.mem_cons_of_mem _ (ih h)
    · rcases List.mem_cons.1 h with h | h
      · exact h ▸ List.mem_cons_self
      · exact List.mem_cons_of_mem _ (ih h)

theorem Store.mem_insert {a : Nat} {v : BitVec n} {c : Nat × BitVec n} (h : c ∈ Store.insert st a v) :
    c = (a, v) ∨ c ∈ st := by
  induction st with
  | nil => exact Or.inl (List.mem_singleton.1 h)
  | cons d t ih =>
    obtain ⟨k, w⟩ := d
    unfold Store.insert at h
    split_ifs at h
    · exact List.mem_cons.1 h
    · rcases List.mem_cons.1 h with h | h
      · exact Or.inl h
      · exact Or.inr (List.mem_cons_of_mem _ h)
    · rcases List.mem_cons.1 h with h | h
      · exact Or.inr (h ▸ List.mem_cons_self)
      · exact (ih h).imp id (List.mem_cons_of_mem _)

/-- A write lists no key but its own and those listed before. -/
theorem Store.mem_write {a : Nat} {v : BitVec n} {c : Nat × BitVec n} (h : c ∈ Store.write st a v) :
    c.1 = a ∨ c ∈ st := by
  unfold Store.write at h
  split_ifs at h
  · exact Or.inr (Store.mem_erase h)
  · rcases Store.mem_insert h with h | h
    · exact Or.inl (by rw [h])
    · exact Or.inr h

/-- In the canonical form no key below the bound is listed. -/
theorem Store.read_below {lo a : Nat} (h : Store.wfFrom lo st = true) (ha : a < lo) :
    Store.read st a = Store.unlisted n := by
  induction st generalizing lo with
  | nil => rfl
  | cons c t ih =>
    obtain ⟨k, v⟩ := c
    simp only [Store.wfFrom, Bool.and_eq_true, decide_eq_true_eq] at h
    unfold Store.read
    rw [if_neg (by omega)]
    exact ih h.2 (by omega)

theorem Store.ext_from {lo : Nat} {t : List (Nat × BitVec n)} (hs : Store.wfFrom lo st = true)
    (ht : Store.wfFrom lo t = true) (h : ∀ a, Store.read st a = Store.read t a) : st = t := by
  induction st generalizing lo t with
  | nil =>
    cases t with
    | nil => rfl
    | cons c t =>
      obtain ⟨k, v⟩ := c
      simp only [Store.wfFrom, Bool.and_eq_true, decide_eq_true_eq] at ht
      have := h k
      simp [Store.read] at this
      exact absurd this.symm ht.1.2
  | cons c st ih =>
    obtain ⟨k, v⟩ := c
    have hs0 := hs
    simp only [Store.wfFrom, Bool.and_eq_true, decide_eq_true_eq] at hs
    cases t with
    | nil =>
      have := h k
      simp [Store.read] at this
      exact absurd this hs.1.2
    | cons d t =>
      obtain ⟨k', v'⟩ := d
      have ht0 := ht
      simp only [Store.wfFrom, Bool.and_eq_true, decide_eq_true_eq] at ht
      have hkk : k = k' := by
        rcases Nat.lt_trichotomy k k' with hlt | heq | hgt
        · have hr := h k
          have : Store.read ((k', v') :: t) k = Store.unlisted n := by
            unfold Store.read
            rw [if_neg (by omega)]
            exact Store.read_below ht.2 (by omega)
          rw [this] at hr
          simp [Store.read] at hr
          exact absurd hr hs.1.2
        · exact heq
        · have hr := h k'
          have : Store.read ((k, v) :: st) k' = Store.unlisted n := by
            unfold Store.read
            rw [if_neg (by omega)]
            exact Store.read_below hs.2 (by omega)
          rw [this] at hr
          simp [Store.read] at hr
          exact absurd hr.symm ht.1.2
      subst hkk
      have hv : v = v' := by simpa [Store.read] using h k
      subst hv
      congr 1
      refine ih hs.2 ht.2 (fun a => ?_)
      by_cases hak : k = a
      · subst hak
        rw [Store.read_below hs.2 (Nat.lt_succ_self k), Store.read_below ht.2 (Nat.lt_succ_self k)]
      · simpa [Store.read, hak] using h a

/-- Equal contents in the canonical form are equal lists. -/
theorem Store.ext {t : List (Nat × BitVec n)} (hs : Store.wf st = true) (ht : Store.wf t = true)
    (h : ∀ a, Store.read st a = Store.read t a) : st = t := Store.ext_from hs ht h

end Sys2Proof.Machine
end

