-- ==== Sys2Proof/Laws/Bus.lean ====
section
/-!
SUPPORT. What a dispatcher write can do (`writeByte_cases`), what it leaves alone, and read after write. Later proofs
cite these and do not unfold the dispatcher.
-/

namespace Sys2Proof.Machine

/-! ### OAM DMA touches memory only -/

@[simp] theorem writeCell_mem (s : State) (n : Nat) (v : Byte) : (writeCell s n v).mem = Store.write s.mem n v := rfl

theorem oamDmaFold_eq (v : Byte) (is : List Nat) (s : State) :
    is.foldl (oamDmaByte v) s = { s with mem := (is.foldl (oamDmaByte v) s).mem } := by
  induction is generalizing s with
  | nil => rfl
  | cons i is ih =>
    rw [List.foldl_cons, ih]
    rfl

/-- An OAM DMA changes memory and nothing else (R500). -/
theorem oamDma_eq (v : Byte) (s : State) : oamDma v s = { s with mem := (oamDma v s).mem } :=
  oamDmaFold_eq v _ s

/-! ### What a write can do -/

/-- Everything a one-byte write can do (R85, R93): one register of one unit, one cell of plain storage, the cartridge's
registers or RAM, or nothing. -/
theorem writeByte_cases (s : State) (a : Word) (v : Byte) :
    (∃ i, writeByte s a v = { s with intr := i }) ∨
    (∃ t, writeByte s a v = { s with timer := t } ∧ t.tacc = s.timer.tacc) ∨
    (∃ o, writeByte s a v = { s with io := o } ∧ o.buttons = s.io.buttons ∧
      (s.io.bootOverlay = false → o.bootOverlay = false)) ∨
    (∃ p m, writeByte s a v = { s with ppu := p, mem := m } ∧ p.mode = s.ppu.mode ∧ p.modeDot = s.ppu.modeDot ∧
      p.ly = s.ppu.ly ∧ p.composed = s.ppu.composed ∧ p.lcdOffSeen = s.ppu.lcdOffSeen ∧
      p.statLyc = s.ppu.statLyc) ∨
    (∃ m, writeByte s a v = { s with mem := m }) ∨
    (∃ c, writeByte s a v = { s with cart := c } ∧ c.rom = s.cart.rom ∧ c.romLen = s.cart.romLen ∧
      c.family = s.cart.family ∧ c.ramLen = s.cart.ramLen) := by
  unfold writeByte
  split
  · exact Or.inl ⟨s.intr, rfl⟩
  · refine Or.inr (Or.inr (Or.inr (Or.inr (Or.inr ⟨_, rfl, ?_⟩))))
    unfold cartWriteControl
    split
    · simp
    · split_ifs <;> simp [writeRamEnable, writeRomLo5, writeBankHi2, writeBankMode]
  · exact Or.inr (Or.inr (Or.inr (Or.inr (Or.inl ⟨_, rfl⟩))))
  · refine Or.inr (Or.inr (Or.inr (Or.inr (Or.inr ⟨_, rfl, ?_⟩))))
    unfold cartWriteRam
    split_ifs <;> simp
  · exact Or.inr (Or.inr (Or.inr (Or.inr (Or.inl ⟨_, rfl⟩))))
  · exact Or.inr (Or.inr (Or.inr (Or.inr (Or.inl ⟨_, rfl⟩))))
  · exact Or.inl ⟨s.intr, rfl⟩
  · unfold ioWrite
    cases ioReg a
    case joyp => exact Or.inr (Or.inr (Or.inl ⟨_, rfl, rfl, id⟩))
    case sb => exact Or.inr (Or.inr (Or.inl ⟨_, rfl, rfl, id⟩))
    case sc => exact Or.inr (Or.inr (Or.inl ⟨_, rfl, rfl, id⟩))
    case div => exact Or.inr (Or.inl ⟨_, rfl, rfl⟩)
    case tima => exact Or.inr (Or.inl ⟨_, rfl, rfl⟩)
    case tma => exact Or.inr (Or.inl ⟨_, rfl, rfl⟩)
    case tac => exact Or.inr (Or.inl ⟨_, rfl, rfl⟩)
    case intFlag => exact Or.inl ⟨_, rfl⟩
    case apu => exact Or.inr (Or.inr (Or.inr (Or.inr (Or.inl ⟨_, rfl⟩))))
    case ly => exact Or.inl ⟨s.intr, rfl⟩
    case dma =>
      exact Or.inr (Or.inr (Or.inr (Or.inl ⟨_, _, oamDma_eq v _, rfl, rfl, rfl, rfl, rfl, rfl⟩)))
    case boot =>
      refine Or.inr (Or.inr (Or.inl ?_))
      dsimp only
      split_ifs
      · exact ⟨s.io, rfl, rfl, id⟩
      · exact ⟨_, rfl, rfl, fun _ => rfl⟩
    case unmapped => exact Or.inl ⟨s.intr, rfl⟩
    all_goals exact Or.inr (Or.inr (Or.inr (Or.inl ⟨_, s.mem, rfl, rfl, rfl, rfl, rfl, rfl, rfl⟩)))
  · exact Or.inr (Or.inr (Or.inr (Or.inr (Or.inl ⟨_, rfl⟩))))
  · exact Or.inl ⟨_, rfl⟩

/-! ### What a write leaves alone -/

@[simp] theorem writeByte_regs (s : State) (a : Word) (v : Byte) : (writeByte s a v).regs = s.regs := by
  obtain ⟨_, h⟩ | ⟨_, h, _⟩ | ⟨_, h, _⟩ | ⟨_, _, h, _⟩ | ⟨_, h⟩ | ⟨_, h, _⟩ := writeByte_cases s a v <;> rw [h]

@[simp] theorem writeByte_ctl (s : State) (a : Word) (v : Byte) : (writeByte s a v).ctl = s.ctl := by
  obtain ⟨_, h⟩ | ⟨_, h, _⟩ | ⟨_, h, _⟩ | ⟨_, _, h, _⟩ | ⟨_, h⟩ | ⟨_, h, _⟩ := writeByte_cases s a v <;> rw [h]

@[simp] theorem writeByte_pixels (s : State) (a : Word) (v : Byte) : (writeByte s a v).pixels = s.pixels := by
  obtain ⟨_, h⟩ | ⟨_, h, _⟩ | ⟨_, h, _⟩ | ⟨_, _, h, _⟩ | ⟨_, h⟩ | ⟨_, h, _⟩ := writeByte_cases s a v <;> rw [h]

@[simp] theorem writeByte_params (s : State) (a : Word) (v : Byte) : (writeByte s a v).params = s.params := by
  obtain ⟨_, h⟩ | ⟨_, h, _⟩ | ⟨_, h, _⟩ | ⟨_, _, h, _⟩ | ⟨_, h⟩ | ⟨_, h, _⟩ := writeByte_cases s a v <;> rw [h]

@[simp] theorem writeByte_tacc (s : State) (a : Word) (v : Byte) : (writeByte s a v).timer.tacc = s.timer.tacc := by
  obtain ⟨_, h⟩ | ⟨_, h, ht⟩ | ⟨_, h, _⟩ | ⟨_, _, h, _⟩ | ⟨_, h⟩ | ⟨_, h, _⟩ := writeByte_cases s a v <;> rw [h]
  exact ht

@[simp] theorem writeByte_buttons (s : State) (a : Word) (v : Byte) :
    (writeByte s a v).io.buttons = s.io.buttons := by
  obtain ⟨_, h⟩ | ⟨_, h, _⟩ | ⟨_, h, hb, _⟩ | ⟨_, _, h, _⟩ | ⟨_, h⟩ | ⟨_, h, _⟩ := writeByte_cases s a v <;> rw [h]
  exact hb

/-- A cleared boot overlay stays cleared (R92). -/
theorem writeByte_overlay (s : State) (a : Word) (v : Byte) (h0 : s.io.bootOverlay = false) :
    (writeByte s a v).io.bootOverlay = false := by
  obtain ⟨_, h⟩ | ⟨_, h, _⟩ | ⟨_, h, _, hb⟩ | ⟨_, _, h, _⟩ | ⟨_, h⟩ | ⟨_, h, _⟩ := writeByte_cases s a v <;> rw [h]
  all_goals first | exact h0 | exact hb h0

/-- A write never changes the image, the lengths or the family (R86). -/
theorem writeByte_cartFixed (s : State) (a : Word) (v : Byte) :
    (writeByte s a v).cart.rom = s.cart.rom ∧ (writeByte s a v).cart.romLen = s.cart.romLen ∧
      (writeByte s a v).cart.family = s.cart.family ∧ (writeByte s a v).cart.ramLen = s.cart.ramLen := by
  obtain ⟨_, h⟩ | ⟨_, h, _⟩ | ⟨_, h, _⟩ | ⟨_, _, h, _⟩ | ⟨_, h⟩ | ⟨_, h, hc⟩ := writeByte_cases s a v <;> rw [h]
  all_goals first | exact ⟨rfl, rfl, rfl, rfl⟩ | exact hc

/-- A write never moves the mode machine (R486: only its next dot does). -/
theorem writeByte_ppuFixed (s : State) (a : Word) (v : Byte) :
    (writeByte s a v).ppu.mode = s.ppu.mode ∧ (writeByte s a v).ppu.modeDot = s.ppu.modeDot ∧
      (writeByte s a v).ppu.ly = s.ppu.ly ∧ (writeByte s a v).ppu.composed = s.ppu.composed ∧
      (writeByte s a v).ppu.lcdOffSeen = s.ppu.lcdOffSeen ∧ (writeByte s a v).ppu.statLyc = s.ppu.statLyc := by
  obtain ⟨_, h⟩ | ⟨_, h, _⟩ | ⟨_, h, _⟩ | ⟨_, _, h, hp⟩ | ⟨_, h⟩ | ⟨_, h, _⟩ := writeByte_cases s a v <;> rw [h]
  all_goals first | exact ⟨rfl, rfl, rfl, rfl, rfl, rfl⟩ | exact hp

/-! ### Writes commute with the CPU's own fields -/

theorem oamDmaFold_cpu (v : Byte) (is : List Nat) (s : State) (r : Regs) (c : Ctl) :
    is.foldl (oamDmaByte v) { s with regs := r, ctl := c } =
      { is.foldl (oamDmaByte v) s with regs := r, ctl := c } := by
  induction is generalizing s with
  | nil => rfl
  | cons i is ih =>
    rw [List.foldl_cons, List.foldl_cons, ← ih]
    rfl

/-- A write does not look at the CPU's registers and control state. -/
theorem writeByte_cpu (s : State) (r : Regs) (c : Ctl) (a : Word) (v : Byte) :
    writeByte { s with regs := r, ctl := c } a v = { writeByte s a v with regs := r, ctl := c } := by
  unfold writeByte
  cases ownerOf false a
  case io =>
    dsimp only
    unfold ioWrite
    cases ioReg a
    case dma => exact oamDmaFold_cpu v _ { s with ppu := { s.ppu with dma := v } } r c
    case boot => dsimp only; split_ifs <;> rfl
    all_goals rfl
  all_goals rfl

/-! ### Reads do not look at the CPU -/

/-- A read depends on the units behind the dispatcher only (R102). -/
theorem readByte_congr {s t : State} (h1 : t.intr = s.intr) (h2 : t.timer = s.timer) (h3 : t.ppu = s.ppu)
    (h4 : t.io = s.io) (h5 : t.cart = s.cart) (h6 : t.mem = s.mem) (h7 : t.params = s.params) (a : Word) :
    readByte t a = readByte s a := by
  unfold readByte ioRead
  rw [h1, h2, h3, h4, h5, h6, h7]

@[simp] theorem readByte_setPc (s : State) (w a : Word) : readByte (s.setPc w) a = readByte s a := rfl
@[simp] theorem readByte_setSp (s : State) (w a : Word) : readByte (s.setSp w) a = readByte s a := rfl
@[simp] theorem readByte_setHl (s : State) (w a : Word) : readByte (s.setHl w) a = readByte s a := rfl
@[simp] theorem readByte_setFlags (s : State) (f : Flags) (a : Word) : readByte (s.setFlags f) a = readByte s a := rfl
@[simp] theorem readByte_setWait (s : State) (n : Nat) (a : Word) : readByte (s.setWait n) a = readByte s a := rfl
@[simp] theorem readByte_setIme (s : State) (b : Bool) (a : Word) : readByte (s.setIme b) a = readByte s a := rfl
@[simp] theorem readByte_setEiPending (s : State) (b : Bool) (a : Word) :
    readByte (s.setEiPending b) a = readByte s a := rfl
@[simp] theorem readByte_setHalted (s : State) (b : Bool) (a : Word) : readByte (s.setHalted b) a = readByte s a := rfl
@[simp] theorem readByte_setStopped (s : State) (b : Bool) (a : Word) :
    readByte (s.setStopped b) a = readByte s a := rfl
@[simp] theorem readByte_setHaltBugLatch (s : State) (b : Bool) (a : Word) :
    readByte (s.setHaltBugLatch b) a = readByte s a := rfl
@[simp] theorem readByte_fetched (s : State) (n : Nat) (a : Word) : readByte (s.fetched n) a = readByte s a := rfl
@[simp] theorem readByte_setReg (s : State) (r : Reg8) (v : Byte) (a : Word) :
    readByte (s.setReg r v) a = readByte s a := by cases r <;> rfl
@[simp] theorem readByte_setPair (s : State) (p : Pair) (w a : Word) :
    readByte (s.setPair p w) a = readByte s a := by cases p <;> rfl
@[simp] theorem readByte_setStackPair (s : State) (p : StackPair) (w a : Word) :
    readByte (s.setStackPair p w) a = readByte s a := by cases p <;> rfl

/-! ### Regions -/

/-- The ranges of R80, as one lemma: which owner an address has says where it lies. -/
theorem ownerOf_false_range (a : Word) :
    (ownerOf false a = .cartRom → a.toNat ≤ 0x7FFF) ∧
    (ownerOf false a = .vram → 0x8000 ≤ a.toNat ∧ a.toNat ≤ 0x9FFF) ∧
    (ownerOf false a = .cartRam → 0xA000 ≤ a.toNat ∧ a.toNat ≤ 0xBFFF) ∧
    (ownerOf false a = .wram → 0xC000 ≤ a.toNat ∧ a.toNat ≤ 0xFDFF) ∧
    (ownerOf false a = .oam → 0xFE00 ≤ a.toNat ∧ a.toNat ≤ 0xFE9F) ∧
    (ownerOf false a = .unmapped → 0xFEA0 ≤ a.toNat ∧ a.toNat ≤ 0xFEFF) ∧
    (ownerOf false a = .io → 0xFF00 ≤ a.toNat ∧ a.toNat ≤ 0xFF7F) ∧
    (ownerOf false a = .hram → 0xFF80 ≤ a.toNat ∧ a.toNat ≤ 0xFFFE) ∧
    (ownerOf false a = .ie → a.toNat = 0xFFFF) ∧ ownerOf false a ≠ .bootOverlay := by
  have := a.isLt
  unfold ownerOf
  simp only [Bool.false_and]
  split_ifs <;> simp_all <;> omega

/-- R80 the other way: where an address lies says which owner it has. -/
theorem ownerOf_of_range (a : Word) :
    (a.toNat ≤ 0x7FFF → ownerOf false a = .cartRom) ∧
    (0x8000 ≤ a.toNat → a.toNat ≤ 0x9FFF → ownerOf false a = .vram) ∧
    (0xA000 ≤ a.toNat → a.toNat ≤ 0xBFFF → ownerOf false a = .cartRam) ∧
    (0xC000 ≤ a.toNat → a.toNat ≤ 0xFDFF → ownerOf false a = .wram) ∧
    (0xFE00 ≤ a.toNat → a.toNat ≤ 0xFE9F → ownerOf false a = .oam) ∧
    (0xFEA0 ≤ a.toNat → a.toNat ≤ 0xFEFF → ownerOf false a = .unmapped) ∧
    (0xFF00 ≤ a.toNat → a.toNat ≤ 0xFF7F → ownerOf false a = .io) ∧
    (0xFF80 ≤ a.toNat → a.toNat ≤ 0xFFFE → ownerOf false a = .hram) := by
  unfold ownerOf
  simp only [Bool.false_and]
  split_ifs <;> simp_all <;> omega

/-- The overlay hides only the bottom 256 addresses, which the cartridge owns without it (R81). -/
theorem ownerOf_overlay (o : Bool) (a : Word) :
    ownerOf o a = if o && decide (a.toNat ≤ 0x00FF) then .bootOverlay else ownerOf false a := by
  unfold ownerOf
  cases o <;> simp

/-- The key of a plain address lies in one of the areas of `State.mem`. -/
theorem plainCell_cellOf {a : Word} (h : ownerOf false a = .vram ∨ ownerOf false a = .wram ∨ ownerOf false a = .oam ∨
    ownerOf false a = .hram) : plainCell (cellOf a) = true := by
  obtain ⟨-, h1, -, h2, h3, -, -, h4, -⟩ := ownerOf_false_range a
  have hr : (0x8000 ≤ a.toNat ∧ a.toNat ≤ 0x9FFF) ∨ (0xC000 ≤ a.toNat ∧ a.toNat ≤ 0xFDFF) ∨
      (0xFE00 ≤ a.toNat ∧ a.toNat ≤ 0xFE9F) ∨ (0xFF80 ≤ a.toNat ∧ a.toNat ≤ 0xFFFE) := by
    rcases h with h | h | h | h
    · exact Or.inl (h1 h)
    · exact Or.inr (Or.inl (h2 h))
    · exact Or.inr (Or.inr (Or.inl (h3 h)))
    · exact Or.inr (Or.inr (Or.inr (h4 h)))
  unfold plainCell cellOf
  dsimp only
  split_ifs <;> simp <;> omega

theorem ne_ite {α : Sort _} {c : Prop} [Decidable c] {x y z : α} (hx : x ≠ z) (hy : y ≠ z) :
    (if c then x else y) ≠ z := by
  split <;> assumption

/-- An APU register's address is in its own range (R95). -/
theorem apu_range {a : Word} (h : ioReg a = .apu) : 0xFF10 ≤ a.toNat ∧ a.toNat ≤ 0xFF3F := by
  by_contra hn
  refine absurd h ?_
  unfold ioReg
  rw [if_neg hn]
  repeat' apply ne_ite
  all_goals exact IoReg.noConfusion

theorem plainCell_apu {a : Word} (h : ioReg a = .apu) : plainCell (cellOf a) = true := by
  have := apu_range h
  unfold plainCell cellOf
  dsimp only
  split_ifs <;> simp <;> omega

end Sys2Proof.Machine
end

