-- ==== Sys2Proof/Laws/Memory.lean ====
section
/-!
SUPPORT. The memories: every write keeps their canonical form and their keys (`MemInv`), a write is seen only where
`storeReaches` says, and the laws of read after write.
-/

namespace Sys2Proof.Machine

/-! ### The form is kept -/

theorem keysOk_write {n : Nat} {ok : Nat → Bool} {st : List (Nat × BitVec n)} {a : Nat} (v : BitVec n)
    (ha : ok a = true) (h : keysOk ok st = true) : keysOk ok (Store.write st a v) = true := by
  simp only [keysOk, List.all_eq_true] at h ⊢
  intro c hc
  rcases Store.mem_write hc with hc | hc
  · rw [hc, ha]
  · exact h c hc

theorem keysOk_ofList {n : Nat} (ok : Nat → Bool) (cells : List (Nat × BitVec n)) :
    keysOk ok (Store.ofList ok cells) = true := by
  unfold Store.ofList
  suffices H : ∀ st : List (Nat × BitVec n), keysOk ok st = true →
      keysOk ok (cells.foldl (fun st c => if ok c.1 then Store.write st c.1 c.2 else st) st) = true from H [] rfl
  induction cells with
  | nil => exact fun st h => h
  | cons c t ih =>
    intro st h
    refine ih _ ?_
    dsimp only
    split_ifs with hc
    · exact keysOk_write _ hc h
    · exact h

/-- The part of `MemInv` about `State.mem`. -/
def MemOk (m : Memory) : Prop := Memory.wf m = true ∧ keysOk plainCell m = true

theorem memOk_write {m : Memory} {a : Nat} (v : Byte) (ha : plainCell a = true) (h : MemOk m) :
    MemOk (Store.write m a v) := ⟨Store.write_wf _ _ h.1, keysOk_write _ ha h.2⟩

theorem oamDmaFold_memOk (v : Byte) (is : List Nat) (hi : ∀ i ∈ is, i < 160) (s : State) (h : MemOk s.mem) :
    MemOk (is.foldl (oamDmaByte v) s).mem := by
  induction is generalizing s with
  | nil => exact h
  | cons i is ih =>
    refine ih (fun j hj => hi j (List.mem_cons_of_mem _ hj)) _ ?_
    refine memOk_write _ ?_ h
    have := hi i List.mem_cons_self
    unfold plainCell oamBase
    simp
    omega

/-- A write keeps VRAM, WRAM, OAM, APU_REGS and HRAM in canonical form, with no other key. -/
theorem writeByte_memOk (s : State) (a : Word) (v : Byte) (h : MemOk s.mem) : MemOk (writeByte s a v).mem := by
  unfold writeByte
  cases ho : ownerOf false a
  case vram => exact memOk_write _ (plainCell_cellOf (Or.inl ho)) h
  case wram => exact memOk_write _ (plainCell_cellOf (Or.inr (Or.inl ho))) h
  case oam => exact memOk_write _ (plainCell_cellOf (Or.inr (Or.inr (Or.inl ho)))) h
  case hram => exact memOk_write _ (plainCell_cellOf (Or.inr (Or.inr (Or.inr ho)))) h
  case io =>
    dsimp only
    unfold ioWrite
    cases hr : ioReg a
    case apu => exact memOk_write _ (plainCell_apu hr) h
    case dma =>
      exact oamDmaFold_memOk v _ (fun i hi => List.mem_range.1 hi) { s with ppu := { s.ppu with dma := v } } h
    case boot => dsimp only; split_ifs <;> exact h
    all_goals exact h
  all_goals exact h

/-- A write keeps cartridge RAM in canonical form, with no key out of range, and the low ROM-bank register off 0
(R137, R144). -/
theorem writeByte_cartOk (s : State) (a : Word) (v : Byte) (hw : Memory.wf s.cart.ram = true)
    (hk : keysOk (fun k => decide (k < s.cart.ramLen)) s.cart.ram = true) (hb : s.cart.romLo5 ≠ 0) :
    Memory.wf (writeByte s a v).cart.ram = true ∧
      keysOk (fun k => decide (k < s.cart.ramLen)) (writeByte s a v).cart.ram = true ∧
      (writeByte s a v).cart.romLo5 ≠ 0 := by
  unfold writeByte
  cases ho : ownerOf false a
  case cartRom =>
    dsimp only
    unfold cartWriteControl
    cases s.cart.family
    · exact ⟨hw, hk, hb⟩
    · dsimp only
      split_ifs
      · exact ⟨hw, hk, hb⟩
      · refine ⟨hw, hk, ?_⟩
        unfold writeRomLo5
        dsimp only
        split_ifs with h0
        · decide
        · exact h0
      · exact ⟨hw, hk, hb⟩
      · exact ⟨hw, hk, hb⟩
  case cartRam =>
    dsimp only
    unfold cartWriteRam
    split_ifs with hr
    · refine ⟨Store.write_wf _ _ hw, keysOk_write _ ?_ hk, hb⟩
      unfold ramReached at hr
      split at hr
      · exact absurd hr (by simp)
      · simpa using (Bool.and_eq_true_iff.1 hr).2
    · exact ⟨hw, hk, hb⟩
  case io =>
    dsimp only
    unfold ioWrite
    cases hr : ioReg a
    case dma => dsimp only; rw [oamDma_eq]; exact ⟨hw, hk, hb⟩
    case boot => dsimp only; split_ifs <;> exact ⟨hw, hk, hb⟩
    all_goals exact ⟨hw, hk, hb⟩
  all_goals exact ⟨hw, hk, hb⟩

/-- Every write keeps the invariant of the memories. -/
theorem writeByte_memInv (s : State) (a : Word) (v : Byte) (h : MemInv s) : MemInv (writeByte s a v) := by
  obtain ⟨h1, h2, h3, h4, h5, h6, h7, h8, h9, h10, h11, h12, h13, h14⟩ := h
  obtain ⟨m1, m2⟩ := writeByte_memOk s a v ⟨h1, h2⟩
  obtain ⟨c1, c2, c3⟩ := writeByte_cartOk s a v h7 h8 h14
  obtain ⟨e1, e2, e3, e4⟩ := writeByte_cartFixed s a v
  constructor
  all_goals first | exact m1 | exact m2 | exact c1 | exact c3 | skip
  all_goals simp only [writeByte_pixels, writeByte_params, e1, e2, e3, e4]
  all_goals assumption

/-- Every write keeps the invariant of the timer and the PPU. -/
theorem writeByte_unitInv (s : State) (a : Word) (v : Byte) (h : UnitInv s) : UnitInv (writeByte s a v) := by
  obtain ⟨h1, h2, h3, h4, h5, h6, h7⟩ := h
  obtain ⟨e1, e2, e3, e4, e5, -⟩ := writeByte_ppuFixed s a v
  constructor
  all_goals simp only [writeByte_tacc, e1, e2, e3, e4, e5]
  all_goals assumption

/-! ### A write is seen only where `storeReaches` says -/

theorem ite_both {α : Sort _} {c : Prop} [Decidable c] {x y : α} (P : α → Prop) (hx : c → P x) (hy : ¬c → P y) :
    P (if c then x else y) := by
  split <;> simp_all

/-- The one address of each I/O register that has one (R93). -/
def ioAddr (r : IoReg) : Option Word :=
  match r with
  | .joyp => some 0xFF00
  | .sb => some 0xFF01
  | .sc => some 0xFF02
  | .div => some 0xFF04
  | .tima => some 0xFF05
  | .tma => some 0xFF06
  | .tac => some 0xFF07
  | .intFlag => some 0xFF0F
  | .apu => none
  | .lcdc => some 0xFF40
  | .stat => some 0xFF41
  | .scy => some 0xFF42
  | .scx => some 0xFF43
  | .ly => some 0xFF44
  | .lyc => some 0xFF45
  | .dma => some 0xFF46
  | .bgp => some 0xFF47
  | .obp0 => some 0xFF48
  | .obp1 => some 0xFF49
  | .wy => some 0xFF4A
  | .wx => some 0xFF4B
  | .boot => some 0xFF50
  | .unmapped => none

theorem ioReg_addr (a : Word) : ∀ w, ioAddr (ioReg a) = some w → a = w := by
  unfold ioReg
  repeat' (refine ite_both (fun r => ∀ w, ioAddr r = some w → a = w) (fun h => ?_) (fun _ => ?_))
  all_goals
    intro w hw
    simp only [ioAddr, Option.some.injEq, reduceCtorEq] at hw
    first | exact h.trans hw | skip

/-- Two addresses of one register with an address of its own are the same. -/
theorem ioReg_inj {a b : Word} (h : ioReg b = ioReg a) (ha : (ioAddr (ioReg a)).isSome = true) : b = a := by
  obtain ⟨w, hw⟩ := Option.isSome_iff_exists.1 ha
  rw [ioReg_addr a w hw, ioReg_addr b w (h ▸ hw)]

/-- A cell that an address does not read is no matter to it. -/
theorem readByte_writeCell_ne (s : State) {n : Nat} {b : Word} (v : Byte) (h : cellOf b ≠ n) :
    readByte (writeCell s n v) b = readByte s b := by
  unfold readByte
  have hr : Store.read (writeCell s n v).mem (cellOf b) = Store.read s.mem (cellOf b) :=
    Store.read_write_ne _ _ h
  cases ho : ownerOf (writeCell s n v).io.bootOverlay b
  all_goals (change ownerOf s.io.bootOverlay b = _ at ho; simp only [ho, hr])
  case io =>
    unfold ioRead
    cases ioReg b
    case apu => exact hr
    all_goals rfl
  all_goals rfl

theorem cellOf_of_oam {b : Word} (h : ownerOf false b ≠ .oam) (i : Nat) (hi : i < 160) : cellOf b ≠ oamBase + i := by
  have hb := b.isLt
  intro hc
  apply h
  unfold cellOf oamBase at hc
  dsimp only at hc
  have : 0xFE00 ≤ b.toNat ∧ b.toNat ≤ 0xFE9F := by split_ifs at hc <;> omega
  unfold ownerOf
  simp only [Bool.false_and]
  rw [if_neg (by simp), if_neg (by omega), if_neg (by omega), if_neg (by omega), if_neg (by omega), if_pos (by omega)]

theorem oamDmaFold_read (v : Byte) (is : List Nat) (hi : ∀ i ∈ is, i < 160) (s : State) {b : Word}
    (hb : ownerOf false b ≠ .oam) : readByte (is.foldl (oamDmaByte v) s) b = readByte s b := by
  induction is generalizing s with
  | nil => rfl
  | cons i is ih =>
    rw [List.foldl_cons, ih (fun j hj => hi j (List.mem_cons_of_mem _ hj))]
    exact readByte_writeCell_ne _ _ (cellOf_of_oam hb i (hi i List.mem_cons_self))

/-- An OAM DMA is seen in OAM only (R500). -/
theorem readByte_oamDma (v : Byte) (s : State) {b : Word} (hb : ownerOf false b ≠ .oam) :
    readByte (oamDma v s) b = readByte s b := oamDmaFold_read v _ (fun _ h => List.mem_range.1 h) s hb

theorem readByte_owner (s : State) (b : Word) :
    readByte s b =
      if s.io.bootOverlay && decide (b.toNat ≤ 0x00FF) then Store.read s.params.bootRom b.toNat
      else match ownerOf false b with
      | .bootOverlay => Store.read s.params.bootRom b.toNat
      | .cartRom => cartReadRom s.cart b.toNat
      | .vram => Store.read s.mem (cellOf b)
      | .cartRam => cartReadRam s.cart b.toNat
      | .wram => Store.read s.mem (cellOf b)
      | .oam => Store.read s.mem (cellOf b)
      | .unmapped => sentinel
      | .io => ioRead s b
      | .hram => Store.read s.mem (cellOf b)
      | .ie => intEnableByte s.intr := by
  unfold readByte
  rw [ownerOf_overlay]
  split_ifs <;> rfl

/-- A write of the cartridge alone is no matter to an address whose cartridge read is the same. -/
theorem readByte_cart (s : State) (c : Cart) (b : Word)
    (h1 : ownerOf false b = .cartRom → cartReadRom c b.toNat = cartReadRom s.cart b.toNat)
    (h2 : ownerOf false b = .cartRam → cartReadRam c b.toNat = cartReadRam s.cart b.toNat) :
    readByte { s with cart := c } b = readByte s b := by
  rw [readByte_owner, readByte_owner]
  split_ifs
  · rfl
  · cases ho : ownerOf false b
    case cartRom => exact h1 ho
    case cartRam => exact h2 ho
    all_goals rfl

theorem readByte_cartControl (s : State) (a b : Word) (v : Byte) (ha : ownerOf false a = .cartRom)
    (h : storeReaches a b = false) :
    readByte { s with cart := cartWriteControl s.cart a.toNat v } b = readByte s b := by
  have hr := (ownerOf_false_range a).1 ha
  have hb := ownerOf_false_range b
  simp only [storeReaches, ha, Bool.or_eq_false_iff, Bool.and_eq_false_iff, decide_eq_false_iff_not] at h
  obtain ⟨⟨h1, h2⟩, h3⟩ := h
  unfold cartWriteControl
  cases hf : s.cart.family
  · rfl
  dsimp only
  split_ifs with e1 e2 e3
  · refine readByte_cart s _ b (fun _ => rfl) (fun hb => ?_)
    exact absurd hb (by rcases h1 with h1 | h1; exact absurd e1 h1; exact h1)
  · refine readByte_cart s _ b (fun hb' => ?_) (fun _ => rfl)
    have : b.toNat ≤ 0x3FFF := by have := hb.1 hb'; omega
    simp [cartReadRom, romByte, romOffset, writeRomLo5, hf, this]
  · refine readByte_cart s _ b (fun hb' => ?_) (fun hb' => ?_)
    · have : b.toNat ≤ 0x3FFF := by have := hb.1 hb'; omega
      simp [cartReadRom, romByte, romOffset, writeBankHi2, hf, this]
    · exfalso; rcases h3 with h3 | ⟨-, h3⟩
      · omega
      · exact h3 hb'
  · refine readByte_cart s _ b (fun hb' => ?_) (fun hb' => ?_)
    · have : b.toNat ≤ 0x3FFF := by have := hb.1 hb'; omega
      simp [cartReadRom, romByte, romOffset, writeBankMode, hf, this]
    · exfalso; rcases h3 with h3 | ⟨-, h3⟩
      · omega
      · exact h3 hb'

/-- A write of cartridge RAM is seen at its own address only (R144). -/
theorem readByte_cartRam (s : State) (a b : Word) (v : Byte) (ha : ownerOf false a = .cartRam) (h : b ≠ a) :
    readByte { s with cart := cartWriteRam s.cart a.toNat v } b = readByte s b := by
  have ra := (ownerOf_false_range a).2.2.1 ha
  have hn : b.toNat ≠ a.toNat := fun e => h (BitVec.eq_of_toNat_eq e)
  unfold cartWriteRam
  split_ifs with hr
  · refine readByte_cart s _ b (fun _ => rfl) (fun hb => ?_)
    have rb := (ownerOf_false_range b).2.2.1 hb
    have e1 : ramOffset { s.cart with ram := Store.write s.cart.ram (ramOffset s.cart a.toNat) v } b.toNat =
        ramOffset s.cart b.toNat := rfl
    have e2 : ramReached { s.cart with ram := Store.write s.cart.ram (ramOffset s.cart a.toNat) v } b.toNat =
        ramReached s.cart b.toNat := rfl
    unfold cartReadRam
    rw [e1, e2]
    split_ifs
    · refine Store.read_write_ne _ _ ?_
      unfold ramOffset
      omega
    · rfl
  · rfl

/-- What a write leaves alone: every address that `storeReaches` does not name reads as before. -/
theorem readByte_writeByte_frame (s : State) (a b : Word) (v : Byte) (h : storeReaches a b = false) :
    readByte (writeByte s a v) b = readByte s b := by
  have hcell : sameCell a b = false → cellOf b ≠ cellOf a := fun e e' => by simp [sameCell, e'] at e
  cases ho : ownerOf false a
  all_goals simp only [writeByte, ho]
  case cartRom => exact readByte_cartControl s a b v ho h
  case cartRam =>
    refine readByte_cartRam s a b v ho (fun e => ?_)
    simp [storeReaches, ho, sameCell, e] at h
  case vram | wram | oam | hram =>
    refine readByte_writeCell_ne s v (hcell ?_)
    simpa only [storeReaches, ho] using h
  case ie =>
    have hs : sameCell a b = false := by simpa only [storeReaches, ho] using h
    rw [readByte_owner, readByte_owner]
    split_ifs
    · rfl
    · cases hb : ownerOf false b
      case ie =>
        have e1 := (ownerOf_false_range a).2.2.2.2.2.2.2.2.1 ho
        have e2 := (ownerOf_false_range b).2.2.2.2.2.2.2.2.1 hb
        simp [sameCell, cellOf, e1, e2] at hs
      case io =>
        show ioRead _ b = ioRead _ b
        unfold ioRead
        cases ioReg b <;> rfl
      all_goals rfl
  case io =>
    simp only [storeReaches, ho] at h
    unfold ioWrite
    cases hr : ioReg a
    all_goals simp only [hr] at h
    case dma =>
      simp only [Bool.or_eq_false_iff, decide_eq_false_iff_not] at h
      dsimp only
      rw [readByte_oamDma v _ h.2, readByte_owner, readByte_owner]
      split_ifs
      · rfl
      · cases hb : ownerOf false b
        case io =>
          show ioRead _ b = ioRead _ b
          unfold ioRead
          cases hq : ioReg b
          case dma => exact absurd (ioReg_inj (hq.trans hr.symm) (by rw [hr]; rfl)) h.1
          all_goals rfl
        all_goals rfl
    case boot =>
      simp only [decide_eq_false_iff_not] at h
      dsimp only
      split_ifs
      · rfl
      · rw [readByte_owner, readByte_owner]
        simp only [h, decide_false, Bool.and_false]
        cases hb : ownerOf false b
        case io =>
          show ioRead _ b = ioRead _ b
          unfold ioRead
          cases hq : ioReg b <;> rfl
        all_goals rfl
    case apu =>
      refine readByte_writeCell_ne s v (fun e => ?_)
      simp only [decide_eq_false_iff_not] at h
      have := apu_range hr
      have hb := b.isLt
      apply h
      apply BitVec.eq_of_toNat_eq
      unfold cellOf at e
      dsimp only at e
      split_ifs at e <;> omega
    case ly => rfl
    case unmapped => rfl
    all_goals
      have hne : b ≠ a := of_decide_eq_false h
      clear h
      dsimp only
      rw [readByte_owner, readByte_owner]
      split_ifs
      · rfl
      · cases hb : ownerOf false b
        case io =>
          show ioRead _ b = ioRead _ b
          unfold ioRead
          cases hq : ioReg b
          all_goals first | rfl | exact absurd (ioReg_inj (hq.trans hr.symm) (by rw [hr]; rfl)) hne
        all_goals rfl

/-! ### Read after write -/

/-- The owner is plain storage with a cell of its own or a mirror's (R87, R88, R90, R98). -/
def Owner.isPlain (o : Owner) : Bool :=
  match o with
  | .vram => true
  | .wram => true
  | .oam => true
  | .hram => true
  | _ => false

theorem readByte_plain (s : State) {b : Word} (h : (ownerOf false b).isPlain = true) :
    readByte s b = Store.read s.mem (cellOf b) := by
  have hb := ownerOf_false_range b
  rw [readByte_owner, if_neg]
  · cases ho : ownerOf false b
    case vram | wram | oam | hram => rfl
    all_goals (rw [ho] at h; exact absurd h (by decide))
  · intro hc
    have : b.toNat ≤ 0x00FF := by simpa using (Bool.and_eq_true_iff.1 hc).2
    obtain ⟨-, h1, -, h2, h3, -, -, h4, -⟩ := hb
    cases ho : ownerOf false b
    case vram => have := h1 ho; omega
    case wram => have := h2 ho; omega
    case oam => have := h3 ho; omega
    case hram => have := h4 ho; omega
    all_goals (rw [ho] at h; exact absurd h (by decide))

theorem writeByte_plain (s : State) {a : Word} (v : Byte) (h : (ownerOf false a).isPlain = true) :
    writeByte s a v = writeCell s (cellOf a) v := by
  unfold writeByte
  cases ho : ownerOf false a
  case vram | wram | oam | hram => rfl
  all_goals (rw [ho] at h; exact absurd h (by decide))

/-- A read of plain storage, at the written address or its mirror, gives the byte written (R88). -/
theorem readByte_writeByte_plain (s : State) {a b : Word} (v : Byte) (ha : (ownerOf false a).isPlain = true)
    (hb : (ownerOf false b).isPlain = true) (h : cellOf b = cellOf a) : readByte (writeByte s a v) b = v := by
  rw [writeByte_plain s v ha, readByte_plain _ hb, h]
  exact Store.read_write_same _ _ _

end Sys2Proof.Machine
end

