-- ==== Sys2Proof/Laws/Shape.lean ====
section
/-! SUPPORT. `exec` is the shared operation of the instruction's form. -/

namespace Sys2Proof.Machine

/-- The CB prefix's meaning is the operation of the form its second byte names. -/
theorem prefixedOp_eq_run (c : Byte) (s : State) : prefixedOp c s = (prefixShape c).run s := by
  unfold prefixedOp prefixShape
  dsimp only
  split_ifs <;> rfl

/-- Every instruction's meaning is the shared operation of its form. -/
theorem exec_eq_run (i : Instr) (s : State) : exec i s = i.shape.run s := by
  cases i
  case prefixCB c => exact prefixedOp_eq_run c s
  all_goals rfl

end Sys2Proof.Machine
end

