-- ==== Sys2Proof/Laws/Exec.lean ====
section
/-!
SUPPORT. What any form of instruction can do, said once: it answers a next state, which is the old state with the form's
stores performed in order and the CPU's own registers and control state changed (`run_stores`). Frames, invariants and
isolation over all instructions follow from it without unfolding a meaning.
-/

namespace Sys2Proof.Machine

/-- Perform stores in order. -/
def storeAll (ws : List (Word × Byte)) (s : State) : State := ws.foldl (fun t w => writeByte t w.1 w.2) s

@[simp] theorem storeAll_nil (s : State) : storeAll [] s = s := rfl
@[simp] theorem storeAll_cons (w : Word × Byte) (ws : List (Word × Byte)) (s : State) :
    storeAll (w :: ws) s = storeAll ws (writeByte s w.1 w.2) := rfl

theorem storeAll_cpu (ws : List (Word × Byte)) (s : State) (r : Regs) (c : Ctl) :
    storeAll ws { s with regs := r, ctl := c } = { storeAll ws s with regs := r, ctl := c } := by
  induction ws generalizing s with
  | nil => rfl
  | cons w ws ih => rw [storeAll_cons, writeByte_cpu, ih]; rfl

/-- Anything that writes keep is kept by the stores of an instruction. -/
theorem storeAll_induct {P : State → Prop} (hw : ∀ s a v, P s → P (writeByte s a v)) (ws : List (Word × Byte))
    (s : State) (h : P s) : P (storeAll ws s) := by
  induction ws generalizing s with
  | nil => exact h
  | cons w ws ih => exact ih _ (hw _ _ _ h)

/-- Addresses that no store reaches read as before. -/
theorem readByte_storeAll (ws : List (Word × Byte)) (s : State) (b : Word)
    (h : ∀ w ∈ ws, storeReaches w.1 b = false) : readByte (storeAll ws s) b = readByte s b := by
  induction ws generalizing s with
  | nil => rfl
  | cons w ws ih =>
    rw [storeAll_cons, ih _ (fun w' h' => h w' (List.mem_cons_of_mem _ h'))]
    exact readByte_writeByte_frame s w.1 b w.2 (h w List.mem_cons_self)

/-- `t` is `s` but for the CPU's own fields. -/
def cpuOnly (s t : State) : Prop :=
  t.intr = s.intr ∧ t.timer = s.timer ∧ t.ppu = s.ppu ∧ t.io = s.io ∧ t.cart = s.cart ∧ t.mem = s.mem ∧
    t.pixels = s.pixels ∧ t.params = s.params

/-- `s` with `t`'s CPU. -/
def State.withCpuOf (s t : State) : State := { s with regs := t.regs, ctl := t.ctl }

theorem cpuOnly_iff {s t : State} : cpuOnly s t ↔ t = s.withCpuOf t := by
  constructor
  · rintro ⟨h1, h2, h3, h4, h5, h6, h7, h8⟩
    exact State.ext_units rfl rfl h1 h2 h3 h4 h5 h6 h7 h8
  · intro h
    rw [h]
    exact ⟨rfl, rfl, rfl, rfl, rfl, rfl, rfl, rfl⟩

/-- `t` is `s` after stores to `as` in that order, with the CPU's own fields whatever they are. -/
def storesTo (as : List Word) (s t : State) : Prop :=
  ∃ ws : List (Word × Byte), ws.map Prod.fst = as ∧ cpuOnly (storeAll ws s) t

theorem storesTo_nil {s t : State} (h : cpuOnly s t) : storesTo [] s t := ⟨[], rfl, h⟩

theorem storesTo_cpu {as : List Word} {s t t' : State} (h : storesTo as s t) (h' : cpuOnly t t') :
    storesTo as s t' := by
  obtain ⟨ws, e, h1, h2, h3, h4, h5, h6, h7, h8⟩ := h
  obtain ⟨g1, g2, g3, g4, g5, g6, g7, g8⟩ := h'
  exact ⟨ws, e, g1.trans h1, g2.trans h2, g3.trans h3, g4.trans h4, g5.trans h5, g6.trans h6, g7.trans h7,
    g8.trans h8⟩

theorem storesTo_write {as : List Word} {s t : State} (h : storesTo as s t) (a : Word) (v : Byte) :
    storesTo (as ++ [a]) s (writeByte t a v) := by
  obtain ⟨ws, e, h⟩ := h
  refine ⟨ws ++ [(a, v)], by rw [List.map_append, e]; rfl, ?_⟩
  rw [cpuOnly_iff.1 h]
  unfold State.withCpuOf
  rw [writeByte_cpu]
  unfold storeAll
  rw [List.foldl_append]
  exact ⟨rfl, rfl, rfl, rfl, rfl, rfl, rfl, rfl⟩

/-- A push stores to the two bytes below SP, high first (R13). -/
theorem storesTo_push {s t : State} (h : storesTo [] s t) (hs : t.regs.sp = s.regs.sp) (v : Word) :
    storesTo (pushAddresses s) s (push16 v t) := by
  have h1 := storesTo_write (storesTo_cpu h (t' := t.setSp (t.regs.sp - 1)) ⟨rfl, rfl, rfl, rfl, rfl, rfl, rfl, rfl⟩)
    (t.regs.sp - 1) (hiByte v)
  have h2 := storesTo_write (storesTo_cpu h1
    (t' := (writeByte (t.setSp (t.regs.sp - 1)) (t.regs.sp - 1) (hiByte v)).setSp (t.regs.sp - 1 - 1))
    ⟨rfl, rfl, rfl, rfl, rfl, rfl, rfl, rfl⟩) (t.regs.sp - 1 - 1) (loByte v)
  have e : pushAddresses s = [] ++ [t.regs.sp - 1] ++ [t.regs.sp - 1 - 1] := by
    rw [hs, BitVec.sub_sub]; rfl
  rw [e]
  unfold push16
  simpa using h2

theorem cpuOnly_setReg (s : State) (r : Reg8) (v : Byte) : cpuOnly s (s.setReg r v) := by
  cases r <;> exact ⟨rfl, rfl, rfl, rfl, rfl, rfl, rfl, rfl⟩

theorem cpuOnly_setPair (s : State) (p : Pair) (v : Word) : cpuOnly s (s.setPair p v) := by
  cases p <;> exact ⟨rfl, rfl, rfl, rfl, rfl, rfl, rfl, rfl⟩

theorem cpuOnly_setStackPair (s : State) (p : StackPair) (v : Word) : cpuOnly s (s.setStackPair p v) := by
  cases p <;> exact ⟨rfl, rfl, rfl, rfl, rfl, rfl, rfl, rfl⟩

theorem cpuOnly_trans {s t u : State} (h : cpuOnly s t) (h' : cpuOnly t u) : cpuOnly s u := by
  obtain ⟨h1, h2, h3, h4, h5, h6, h7, h8⟩ := h
  obtain ⟨g1, g2, g3, g4, g5, g6, g7, g8⟩ := h'
  exact ⟨g1.trans h1, g2.trans h2, g3.trans h3, g4.trans h4, g5.trans h5, g6.trans h6, g7.trans h7, g8.trans h8⟩

/-- Writing an operand stores to its address, if it has one (R166, R294). -/
theorem storesTo_operand {s : State} (o : Operand8) (v : Byte) (F : ∀ n, cpuOnly s (s.fetched n)) :
    storesTo (o.storeAddresses s) s (writeOperand o v (s.fetched 2)) := by
  cases o
  · exact storesTo_nil (cpuOnly_trans (F 2) (cpuOnly_setReg _ _ _))
  · exact storesTo_write (storesTo_nil (F 2)) _ _

/-- Clearing the divider is a store to DIV (R445). -/
theorem clearDiv_eq (s : State) : clearDiv s = writeByte s 0xFF04 0 := rfl

/-- A form answers a next state: its stores in order, and nothing else outside the CPU. -/
def Shape.StoresOnly (sh : Shape) (s : State) : Prop := ∃ t, sh.run s = .next t ∧ storesTo (sh.stores s) s t

theorem cpuOnly_fetched (s : State) (n : Nat) : cpuOnly s (s.fetched n) :=
  ⟨rfl, rfl, rfl, rfl, rfl, rfl, rfl, rfl⟩

theorem storesTo_setWait {as : List Word} {s t : State} (n : Nat) (h : storesTo as s t) :
    storesTo as s (t.setWait n) := storesTo_cpu h ⟨rfl, rfl, rfl, rfl, rfl, rfl, rfl, rfl⟩

theorem storesTo_setPc {as : List Word} {s t : State} (w : Word) (h : storesTo as s t) :
    storesTo as s (t.setPc w) := storesTo_cpu h ⟨rfl, rfl, rfl, rfl, rfl, rfl, rfl, rfl⟩

theorem storesTo_setFlags {as : List Word} {s t : State} (f : Flags) (h : storesTo as s t) :
    storesTo as s (t.setFlags f) := storesTo_cpu h ⟨rfl, rfl, rfl, rfl, rfl, rfl, rfl, rfl⟩

theorem storesOnly_nop (s : State) : (Shape.nop).StoresOnly s := by
  exact ⟨_, rfl, storesTo_setWait _ (storesTo_nil (cpuOnly_fetched s _))⟩

theorem storesOnly_halt (s : State) : (Shape.halt).StoresOnly s := by
  refine ⟨_, rfl, storesTo_setWait _ (storesTo_nil ?_)⟩
  unfold haltState
  split
  · exact cpuOnly_fetched s 1
  · split_ifs <;> exact cpuOnly_fetched s 1

/-- STOP by `STOP_MODE` (R352), one lemma a mode. -/
theorem stop_fault (s : State) (h : s.params.stopMode = .fault) : stop s = .next (raiseUnimplemented 0x10 s) := by
  unfold stop
  rw [h]

theorem stop_nop2 (s : State) (h : s.params.stopMode = .nop2) : stop s = .next ((s.fetched 2).setWait 4) := by
  unfold stop
  rw [h]
  rfl

theorem stop_halt (s : State) (h : s.params.stopMode = .haltUntilJoypad) :
    stop s = .next ((writeByte ((s.fetched 2).setStopped true) 0xFF04 0).setWait 4) := by
  unfold stop
  rw [h]
  rfl

theorem storesOnly_stop (s : State) : (Shape.stop).StoresOnly s := by
  have es : Shape.stop.stores s = if s.params.stopMode = .haltUntilJoypad then [0xFF04] else [] := rfl
  unfold Shape.StoresOnly
  rw [es]
  cases hm : s.params.stopMode
  · exact ⟨_, stop_fault s hm, storesTo_nil (cpuOnly_fetched s 1)⟩
  · exact ⟨_, stop_nop2 s hm, storesTo_setWait _ (storesTo_nil (cpuOnly_fetched s 2))⟩
  · exact ⟨_, stop_halt s hm, storesTo_setWait _ (storesTo_write (storesTo_cpu (storesTo_nil (cpuOnly_fetched s 2))
      (t' := (s.fetched 2).setStopped true) ⟨rfl, rfl, rfl, rfl, rfl, rfl, rfl, rfl⟩) 0xFF04 0)⟩

theorem storesOnly_illegal (op : Byte) (s : State) : (Shape.illegal op).StoresOnly s := by
  exact ⟨_, rfl, storesTo_nil (cpuOnly_fetched s 1)⟩

theorem storesOnly_disableInts (s : State) : (Shape.disableInts).StoresOnly s := by
  exact ⟨_, rfl, storesTo_setWait _ (storesTo_nil (cpuOnly_fetched s 1))⟩

theorem storesOnly_enableInts (s : State) : (Shape.enableInts).StoresOnly s := by
  exact ⟨_, rfl, storesTo_setWait _ (storesTo_nil (cpuOnly_fetched s 1))⟩

theorem storesOnly_loadReg (dst src : Reg8) (s : State) : (Shape.loadReg dst src).StoresOnly s := by
  exact ⟨_, rfl, storesTo_setWait _ (storesTo_nil (cpuOnly_trans (cpuOnly_fetched s 1) (cpuOnly_setReg _ _ _)))⟩

theorem storesOnly_loadRegImm (dst : Reg8) (n : Byte) (s : State) : (Shape.loadRegImm dst n).StoresOnly s := by
  exact ⟨_, rfl, storesTo_setWait _ (storesTo_nil (cpuOnly_trans (cpuOnly_fetched s 2) (cpuOnly_setReg _ _ _)))⟩

theorem storesOnly_loadRegMem (dst : Reg8) (s : State) : (Shape.loadRegMem dst).StoresOnly s := by
  exact ⟨_, rfl, storesTo_setWait _ (storesTo_nil (cpuOnly_trans (cpuOnly_fetched s 1) (cpuOnly_setReg _ _ _)))⟩

theorem storesOnly_storeMemReg (src : Reg8) (s : State) : (Shape.storeMemReg src).StoresOnly s := by
  exact ⟨_, rfl, storesTo_setWait _ (storesTo_write (storesTo_nil (cpuOnly_fetched s 1)) _ _)⟩

theorem storesOnly_storeMemImm (n : Byte) (s : State) : (Shape.storeMemImm n).StoresOnly s := by
  exact ⟨_, rfl, storesTo_setWait _ (storesTo_write (storesTo_nil (cpuOnly_fetched s 2)) _ _)⟩

theorem storesOnly_loadAccAbs (w : Word) (s : State) : (Shape.loadAccAbs w).StoresOnly s := by
  exact ⟨_, rfl, storesTo_setWait _ (storesTo_nil (cpuOnly_trans (cpuOnly_fetched s 3) (cpuOnly_setReg _ _ _)))⟩

theorem storesOnly_storeAccAbs (w : Word) (s : State) : (Shape.storeAccAbs w).StoresOnly s := by
  exact ⟨_, rfl, storesTo_setWait _ (storesTo_write (storesTo_nil (cpuOnly_fetched s 3)) _ _)⟩

theorem storesOnly_loadAccInd (p : Pair) (s : State) : (Shape.loadAccInd p).StoresOnly s := by
  exact ⟨_, rfl, storesTo_setWait _ (storesTo_nil (cpuOnly_trans (cpuOnly_fetched s 1) (cpuOnly_setReg _ _ _)))⟩

theorem storesOnly_storeAccInd (p : Pair) (s : State) : (Shape.storeAccInd p).StoresOnly s := by
  have e : (s.fetched 1).pair p = s.pair p := by cases p <;> rfl
  have h := storesTo_write (storesTo_nil (cpuOnly_fetched s 1)) ((s.fetched 1).pair p) ((s.fetched 1).reg .a)
  refine ⟨_, rfl, storesTo_setWait _ ?_⟩
  rw [e] at h ⊢
  exact h

theorem storesOnly_loadHigh (n : Byte) (s : State) : (Shape.loadHigh n).StoresOnly s := by
  exact ⟨_, rfl, storesTo_setWait _ (storesTo_nil (cpuOnly_trans (cpuOnly_fetched s 2) (cpuOnly_setReg _ _ _)))⟩

theorem storesOnly_storeHigh (n : Byte) (s : State) : (Shape.storeHigh n).StoresOnly s := by
  exact ⟨_, rfl, storesTo_setWait _ (storesTo_write (storesTo_nil (cpuOnly_fetched s 2)) _ _)⟩

theorem storesOnly_loadHighC (s : State) : (Shape.loadHighC).StoresOnly s := by
  exact ⟨_, rfl, storesTo_setWait _ (storesTo_nil (cpuOnly_trans (cpuOnly_fetched s 1) (cpuOnly_setReg _ _ _)))⟩

theorem storesOnly_storeHighC (s : State) : (Shape.storeHighC).StoresOnly s := by
  exact ⟨_, rfl, storesTo_setWait _ (storesTo_write (storesTo_nil (cpuOnly_fetched s 1)) _ _)⟩

theorem storesOnly_storeAccStep (k : Word) (s : State) : (Shape.storeAccStep k).StoresOnly s := by
  exact ⟨_, rfl, storesTo_setWait _ (storesTo_cpu (storesTo_write (storesTo_nil (cpuOnly_fetched s 1)) (s.fetched 1).hl ((s.fetched 1).reg .a))
      ⟨rfl, rfl, rfl, rfl, rfl, rfl, rfl, rfl⟩)⟩

theorem storesOnly_loadAccStep (k : Word) (s : State) : (Shape.loadAccStep k).StoresOnly s := by
  exact ⟨_, rfl, storesTo_setWait _ (storesTo_nil (cpuOnly_fetched s 1))⟩

theorem storesOnly_loadPairImm (p : Pair) (w : Word) (s : State) : (Shape.loadPairImm p w).StoresOnly s := by
  exact ⟨_, rfl, storesTo_setWait _ (storesTo_nil (cpuOnly_trans (cpuOnly_fetched s 3) (cpuOnly_setPair _ _ _)))⟩

theorem storesOnly_loadSpHl (s : State) : (Shape.loadSpHl).StoresOnly s := by
  exact ⟨_, rfl, storesTo_setWait _ (storesTo_nil (cpuOnly_fetched s 1))⟩

theorem storesOnly_storeSpAbs (w : Word) (s : State) : (Shape.storeSpAbs w).StoresOnly s := by
  exact ⟨_, rfl, storesTo_setWait _ (storesTo_write (storesTo_write (storesTo_nil (cpuOnly_fetched s 3)) w (loByte (s.fetched 3).regs.sp)) (w + 1) _)⟩

theorem storesOnly_pushPair (p : StackPair) (s : State) : (Shape.pushPair p).StoresOnly s := by
  exact ⟨_, rfl, storesTo_setWait _ (storesTo_push (storesTo_nil (cpuOnly_fetched s 1)) rfl _)⟩

theorem storesOnly_popPair (p : StackPair) (s : State) : (Shape.popPair p).StoresOnly s := by
  exact ⟨_, rfl, storesTo_setWait _ (storesTo_nil (cpuOnly_trans (cpuOnly_fetched s 1) (cpuOnly_setStackPair ((s.fetched 1).setSp _) _ _)))⟩

theorem storesOnly_aluReg (op : AluOp) (r : Reg8) (s : State) : (Shape.aluReg op r).StoresOnly s := by
  exact ⟨_, rfl, storesTo_setWait _ (storesTo_nil (cpuOnly_fetched s 1))⟩

theorem storesOnly_aluMem (op : AluOp) (s : State) : (Shape.aluMem op).StoresOnly s := by
  exact ⟨_, rfl, storesTo_setWait _ (storesTo_nil (cpuOnly_fetched s 1))⟩

theorem storesOnly_aluImm (op : AluOp) (n : Byte) (s : State) : (Shape.aluImm op n).StoresOnly s := by
  exact ⟨_, rfl, storesTo_setWait _ (storesTo_nil (cpuOnly_fetched s 2))⟩

theorem storesOnly_incReg (r : Reg8) (s : State) : (Shape.incReg r).StoresOnly s := by
  exact ⟨_, rfl, storesTo_setWait _ (storesTo_nil (cpuOnly_trans (cpuOnly_fetched s 1) (cpuOnly_setReg _ _ _)))⟩

theorem storesOnly_decReg (r : Reg8) (s : State) : (Shape.decReg r).StoresOnly s := by
  exact ⟨_, rfl, storesTo_setWait _ (storesTo_nil (cpuOnly_trans (cpuOnly_fetched s 1) (cpuOnly_setReg _ _ _)))⟩

theorem storesOnly_incMem (s : State) : (Shape.incMem).StoresOnly s := by
  exact ⟨_, rfl, storesTo_setWait _ (storesTo_setFlags _ (storesTo_write (storesTo_nil (cpuOnly_fetched s 1)) _ _))⟩

theorem storesOnly_decMem (s : State) : (Shape.decMem).StoresOnly s := by
  exact ⟨_, rfl, storesTo_setWait _ (storesTo_setFlags _ (storesTo_write (storesTo_nil (cpuOnly_fetched s 1)) _ _))⟩

theorem storesOnly_decimalAdjust (s : State) : (Shape.decimalAdjust).StoresOnly s := by
  exact ⟨_, rfl, storesTo_setWait _ (storesTo_nil (cpuOnly_fetched s 1))⟩

theorem storesOnly_complementAcc (s : State) : (Shape.complementAcc).StoresOnly s := by
  exact ⟨_, rfl, storesTo_setWait _ (storesTo_nil (cpuOnly_fetched s 1))⟩

theorem storesOnly_setCarry (s : State) : (Shape.setCarry).StoresOnly s := by
  exact ⟨_, rfl, storesTo_setWait _ (storesTo_nil (cpuOnly_fetched s 1))⟩

theorem storesOnly_complementCarry (s : State) : (Shape.complementCarry).StoresOnly s := by
  exact ⟨_, rfl, storesTo_setWait _ (storesTo_nil (cpuOnly_fetched s 1))⟩

theorem storesOnly_addHl (p : Pair) (s : State) : (Shape.addHl p).StoresOnly s := by
  exact ⟨_, rfl, storesTo_setWait _ (storesTo_nil (cpuOnly_fetched s 1))⟩

theorem storesOnly_incPair (p : Pair) (s : State) : (Shape.incPair p).StoresOnly s := by
  exact ⟨_, rfl, storesTo_setWait _ (storesTo_nil (cpuOnly_trans (cpuOnly_fetched s 1) (cpuOnly_setPair _ _ _)))⟩

theorem storesOnly_decPair (p : Pair) (s : State) : (Shape.decPair p).StoresOnly s := by
  exact ⟨_, rfl, storesTo_setWait _ (storesTo_nil (cpuOnly_trans (cpuOnly_fetched s 1) (cpuOnly_setPair _ _ _)))⟩

theorem storesOnly_addSpDisp (e : Byte) (s : State) : (Shape.addSpDisp e).StoresOnly s := by
  exact ⟨_, rfl, storesTo_setWait _ (storesTo_nil (cpuOnly_fetched s 2))⟩

theorem storesOnly_loadHlSpDisp (e : Byte) (s : State) : (Shape.loadHlSpDisp e).StoresOnly s := by
  exact ⟨_, rfl, storesTo_setWait _ (storesTo_nil (cpuOnly_fetched s 2))⟩

theorem storesOnly_rotAcc (op : RotOp) (s : State) : (Shape.rotAcc op).StoresOnly s := by
  exact ⟨_, rfl, storesTo_setWait _ (storesTo_nil (cpuOnly_fetched s 1))⟩

theorem storesOnly_cbRot (op : RotOp) (o : Operand8) (s : State) : (Shape.cbRot op o).StoresOnly s := by
  exact ⟨_, rfl, storesTo_setWait _ (storesTo_setFlags _ (storesTo_operand o _ (cpuOnly_fetched s)))⟩

theorem storesOnly_cbBit (n : BitVec 3) (o : Operand8) (s : State) : (Shape.cbBit n o).StoresOnly s := by
  exact ⟨_, rfl, storesTo_setWait _ (storesTo_nil (cpuOnly_fetched s 2))⟩

theorem storesOnly_cbRes (n : BitVec 3) (o : Operand8) (s : State) : (Shape.cbRes n o).StoresOnly s := by
  exact ⟨_, rfl, storesTo_setWait _ (storesTo_operand o _ (cpuOnly_fetched s))⟩

theorem storesOnly_cbSet (n : BitVec 3) (o : Operand8) (s : State) : (Shape.cbSet n o).StoresOnly s := by
  exact ⟨_, rfl, storesTo_setWait _ (storesTo_operand o _ (cpuOnly_fetched s))⟩

theorem storesOnly_jumpAbs (w : Word) (s : State) : (Shape.jumpAbs w).StoresOnly s := by
  exact ⟨_, rfl, storesTo_setWait _ (storesTo_nil (cpuOnly_fetched s 3))⟩

theorem storesOnly_jumpAbsIf (cc : Cond) (w : Word) (s : State) : (Shape.jumpAbsIf cc w).StoresOnly s := by
  unfold Shape.StoresOnly
  simp only [Shape.run, jumpAbsIf]
  split_ifs
  · exact ⟨_, rfl, storesTo_setWait _ (storesTo_nil (cpuOnly_fetched s 3))⟩
  · exact ⟨_, rfl, storesTo_setWait _ (storesTo_nil (cpuOnly_fetched s 3))⟩

theorem storesOnly_jumpHl (s : State) : (Shape.jumpHl).StoresOnly s := by
  exact ⟨_, rfl, storesTo_setWait _ (storesTo_nil (cpuOnly_fetched s 1))⟩

theorem storesOnly_jumpRel (e : Byte) (s : State) : (Shape.jumpRel e).StoresOnly s := by
  exact ⟨_, rfl, storesTo_setWait _ (storesTo_nil (cpuOnly_fetched s 2))⟩

theorem storesOnly_jumpRelIf (cc : Cond) (e : Byte) (s : State) : (Shape.jumpRelIf cc e).StoresOnly s := by
  unfold Shape.StoresOnly
  simp only [Shape.run, jumpRelIf]
  split_ifs
  · exact ⟨_, rfl, storesTo_setWait _ (storesTo_nil (cpuOnly_fetched s 2))⟩
  · exact ⟨_, rfl, storesTo_setWait _ (storesTo_nil (cpuOnly_fetched s 2))⟩

theorem storesOnly_callAbs (w : Word) (s : State) : (Shape.callAbs w).StoresOnly s := by
  exact ⟨_, rfl, storesTo_setWait _ (storesTo_setPc _ (storesTo_push (storesTo_nil (cpuOnly_fetched s 3)) rfl _))⟩

theorem storesOnly_callAbsIf (cc : Cond) (w : Word) (s : State) : (Shape.callAbsIf cc w).StoresOnly s := by
  have es : (Shape.callAbsIf cc w).stores s = if condHolds cc s.flags then pushAddresses s else [] := rfl
  have er : (Shape.callAbsIf cc w).run s = callAbsIf cc w s := rfl
  unfold Shape.StoresOnly
  rw [es, er]
  unfold callAbsIf
  by_cases h : condHolds cc s.flags = true
  · rw [if_pos h, if_pos (show condHolds cc (s.fetched 3).flags = true from h)]
    exact ⟨_, rfl, storesTo_setWait _
      (storesTo_setPc _ (storesTo_push (storesTo_nil (cpuOnly_fetched s 3)) rfl _))⟩
  · rw [if_neg h, if_neg (show ¬condHolds cc (s.fetched 3).flags = true from h)]
    exact ⟨_, rfl, storesTo_setWait _ (storesTo_nil (cpuOnly_fetched s 3))⟩

theorem storesOnly_ret (s : State) : (Shape.ret).StoresOnly s := by
  exact ⟨_, rfl, storesTo_setWait _ (storesTo_nil (cpuOnly_fetched s 1))⟩

theorem storesOnly_retIf (cc : Cond) (s : State) : (Shape.retIf cc).StoresOnly s := by
  unfold Shape.StoresOnly
  simp only [Shape.run, retIf]
  split_ifs
  · exact ⟨_, rfl, storesTo_setWait _ (storesTo_nil (cpuOnly_fetched s 1))⟩
  · exact ⟨_, rfl, storesTo_setWait _ (storesTo_nil (cpuOnly_fetched s 1))⟩

theorem storesOnly_reti (s : State) : (Shape.reti).StoresOnly s := by
  exact ⟨_, rfl, storesTo_setWait _ (storesTo_nil (cpuOnly_fetched s 1))⟩

theorem storesOnly_restart (y : BitVec 3) (s : State) : (Shape.restart y).StoresOnly s := by
  exact ⟨_, rfl, storesTo_setWait _ (storesTo_setPc _ (storesTo_push (storesTo_nil (cpuOnly_fetched s 1)) rfl _))⟩

/-- Every form answers a next state: the form's stores in order, and nothing else outside the CPU. -/
theorem run_stores (sh : Shape) (s : State) : ∃ t, sh.run s = .next t ∧ storesTo (sh.stores s) s t := by
  cases sh
  case nop => exact storesOnly_nop s
  case halt => exact storesOnly_halt s
  case stop => exact storesOnly_stop s
  case illegal => exact storesOnly_illegal _ s
  case disableInts => exact storesOnly_disableInts s
  case enableInts => exact storesOnly_enableInts s
  case loadReg => exact storesOnly_loadReg _ _ s
  case loadRegImm => exact storesOnly_loadRegImm _ _ s
  case loadRegMem => exact storesOnly_loadRegMem _ s
  case storeMemReg => exact storesOnly_storeMemReg _ s
  case storeMemImm => exact storesOnly_storeMemImm _ s
  case loadAccAbs => exact storesOnly_loadAccAbs _ s
  case storeAccAbs => exact storesOnly_storeAccAbs _ s
  case loadAccInd => exact storesOnly_loadAccInd _ s
  case storeAccInd => exact storesOnly_storeAccInd _ s
  case loadHigh => exact storesOnly_loadHigh _ s
  case storeHigh => exact storesOnly_storeHigh _ s
  case loadHighC => exact storesOnly_loadHighC s
  case storeHighC => exact storesOnly_storeHighC s
  case storeAccStep => exact storesOnly_storeAccStep _ s
  case loadAccStep => exact storesOnly_loadAccStep _ s
  case loadPairImm => exact storesOnly_loadPairImm _ _ s
  case loadSpHl => exact storesOnly_loadSpHl s
  case storeSpAbs => exact storesOnly_storeSpAbs _ s
  case pushPair => exact storesOnly_pushPair _ s
  case popPair => exact storesOnly_popPair _ s
  case aluReg => exact storesOnly_aluReg _ _ s
  case aluMem => exact storesOnly_aluMem _ s
  case aluImm => exact storesOnly_aluImm _ _ s
  case incReg => exact storesOnly_incReg _ s
  case decReg => exact storesOnly_decReg _ s
  case incMem => exact storesOnly_incMem s
  case decMem => exact storesOnly_decMem s
  case decimalAdjust => exact storesOnly_decimalAdjust s
  case complementAcc => exact storesOnly_complementAcc s
  case setCarry => exact storesOnly_setCarry s
  case complementCarry => exact storesOnly_complementCarry s
  case addHl => exact storesOnly_addHl _ s
  case incPair => exact storesOnly_incPair _ s
  case decPair => exact storesOnly_decPair _ s
  case addSpDisp => exact storesOnly_addSpDisp _ s
  case loadHlSpDisp => exact storesOnly_loadHlSpDisp _ s
  case rotAcc => exact storesOnly_rotAcc _ s
  case cbRot => exact storesOnly_cbRot _ _ s
  case cbBit => exact storesOnly_cbBit _ _ s
  case cbRes => exact storesOnly_cbRes _ _ s
  case cbSet => exact storesOnly_cbSet _ _ s
  case jumpAbs => exact storesOnly_jumpAbs _ s
  case jumpAbsIf => exact storesOnly_jumpAbsIf _ _ s
  case jumpHl => exact storesOnly_jumpHl s
  case jumpRel => exact storesOnly_jumpRel _ s
  case jumpRelIf => exact storesOnly_jumpRelIf _ _ s
  case callAbs => exact storesOnly_callAbs _ s
  case callAbsIf => exact storesOnly_callAbsIf _ _ s
  case ret => exact storesOnly_ret s
  case retIf => exact storesOnly_retIf _ s
  case reti => exact storesOnly_reti s
  case restart => exact storesOnly_restart _ s

end Sys2Proof.Machine
end

