-- ==== Sys2Proof/Laws/Decode.lean ====
section
/-!
SUPPORT. What decoding gives, in the forms' terms. `decodeShape` computes, so that a claim about bytes with a symbolic
immediate closes by `rfl` once the opcode byte is known; `runsTo_of_shape` carries it to `exec`.
-/

namespace Sys2Proof.Machine

/-- The form of the instruction that the bytes are, when they are exactly one. -/
def decodeShape (bytes : List Byte) : Option Shape :=
  match decode bytes with
  | .instr i [] => some i.shape
  | _ => none

/-- Bytes of a known form run as the form's shared operation. -/
theorem runsTo_of_shape {bytes : List Byte} {sh : Shape} {s t : State} (hd : decodeShape bytes = some sh)
    (hr : sh.run s = .next t) : runsTo bytes s t := by
  unfold decodeShape at hd
  split at hd
  · rename_i i hi
    exact ⟨i, hi, by rw [exec_eq_run, Option.some.inj hd, hr]⟩
  · exact absurd hd (by simp)

/-- A byte is its fields x, y and z (R161). -/
theorem byte_fields (b : Byte) : ∃ x y z, b = opcodeByte x y z :=
  ⟨b.extractLsb' 6 2, b.extractLsb' 3 3, b.extractLsb' 0 3, by revert b; decide +kernel⟩

/-- A row of the opcode table gives well-formed instructions whose encoding is the row's byte with the immediates. -/
def rowOk (op : Byte) (r : OpRow) : Prop :=
  match r with
  | .op i => i.wellFormed = true ∧ encode i = [op]
  | .d8 f => ∀ n, (f n).wellFormed = true ∧ encode (f n) = [op, n]
  | .d16 f => ∀ h l, (f (mkWord h l)).wellFormed = true ∧ encode (f (mkWord h l)) = [op, l, h]
  | .cb => op = cbPrefix

/-- All 256 bytes have a row, and every row is right. -/
theorem opTable_ok (op : Byte) : ∃ r, tableAt opTable op = some r ∧ rowOk op r := by
  obtain ⟨x, y, z, rfl⟩ := byte_fields op
  rcases bv2_cases x with rfl | rfl | rfl | rfl <;>
  rcases bv3_cases y with rfl | rfl | rfl | rfl | rfl | rfl | rfl | rfl <;>
  rcases bv3_cases z with rfl | rfl | rfl | rfl | rfl | rfl | rfl | rfl <;>
  refine ⟨_, rfl, ?_⟩
  all_goals first
    | exact ⟨rfl, rfl⟩
    | exact fun _ => ⟨rfl, rfl⟩
    | rfl
    | exact fun h l => ⟨rfl, by simp only [encode, hiByte_mkWord, loByte_mkWord]⟩

/-- All 256 bytes after the prefix have a row, with the form their fields name (R177). -/
theorem cbTable_ok (c : Byte) : ∃ i, tableAt cbTable c = some i ∧ i.wellFormed = true ∧ encode i = [cbPrefix, c] ∧
    i.shape = prefixShape c := by
  obtain ⟨x, y, z, rfl⟩ := byte_fields c
  rcases bv2_cases x with rfl | rfl | rfl | rfl <;>
  rcases bv3_cases y with rfl | rfl | rfl | rfl | rfl | rfl | rfl | rfl <;>
  rcases bv3_cases z with rfl | rfl | rfl | rfl | rfl | rfl | rfl | rfl <;>
  exact ⟨_, rfl, rfl, rfl, rfl⟩

/-- Decoding looks the first byte's row up. -/
theorem decode_cons (op : Byte) (rest : List Byte) : ∃ r, tableAt opTable op = some r ∧ rowOk op r ∧
    decode (op :: rest) = decodeRow r rest := by
  obtain ⟨r, hr, hk⟩ := opTable_ok op
  exact ⟨r, hr, hk, by simp only [decode, hr]⟩

/-- Three bytes always hold an instruction. -/
theorem decode_three (a b c : Byte) (rest : List Byte) : ∃ i rest', decode (a :: b :: c :: rest) = .instr i rest' := by
  obtain ⟨r, -, -, h⟩ := decode_cons a (b :: c :: rest)
  rw [h]
  cases r
  case cb =>
    obtain ⟨i, hi, -⟩ := cbTable_ok b
    exact ⟨i, c :: rest, by simp only [decodeRow, hi]⟩
  all_goals exact ⟨_, _, rfl⟩

/-- The bytes at PC always decode (R179, R180). -/
theorem decode_fetchBytes (s : State) : ∃ i rest, decode (fetchBytes s) = .instr i rest := decode_three _ _ _ _

end Sys2Proof.Machine
end

