-- ==== Sys2Proof/Laws/Cpu.lean ====
section
/-!
SUPPORT. The CPU's dot and the step, said once: one lemma for each way a dot goes (R402), and the inversion `step_inv`,
which says everything a step that answers a next state has done.
-/

namespace Sys2Proof.Machine

/-- A core that has faulted does not advance (R400, R405). -/
theorem step_fatal {s : State} {e : UnimplementedOpcode} (h : s.ctl.fatal = some e) :
    step s = .fault (.unimplementedOpcode e.byte e.addr) := by
  unfold step dot
  rw [h]

/-- Otherwise a step is the CPU's dot, then the units' (R400). -/
theorem step_of_cpuDot {s t : State} (h : s.ctl.fatal = none) (hc : cpuDot s = .next t) :
    step s = .next (unitsDot t) := by
  unfold step dot
  rw [h]
  dsimp only
  rw [hc]

/-- Inside an instruction. -/
theorem cpuDot_wait {s : State} (h : 1 < s.ctl.wait) : cpuDot s = .next (s.setWait (s.ctl.wait - 1)) := by
  unfold cpuDot
  exact if_pos (show s.ctl.wait - 1 > 0 by omega)

theorem cpuDot_boundary {s : State} (h : s.ctl.wait ≤ 1) : cpuDot s = boundary (s.setWait 0) := by
  unfold cpuDot
  have e : s.ctl.wait - 1 = 0 := by omega
  rw [e]
  exact if_neg (show ¬(0 > 0) by omega)

theorem boundary_stopped {s : State} (h : s.ctl.stopped = true) : boundary s = .next s := by
  unfold boundary
  exact if_pos h

theorem boundary_service {s : State} (h : s.ctl.stopped = false) (hi : (s.ctl.ime && anyEligible s.intr) = true) :
    boundary s = .next (takeInterrupt s) := by
  unfold boundary
  rw [if_neg (by simp [h]), if_pos hi]

theorem boundary_idle {s : State} (h : s.ctl.stopped = false) (hh : s.ctl.halted = true)
    (he : anyEligible s.intr = false) : boundary s = .next s := by
  unfold boundary
  rw [if_neg (by simp [h]), if_neg (by simp [he]), if_pos (by simp [hh, he])]

theorem boundary_fetch {s : State} (h : s.ctl.stopped = false) (hi : (s.ctl.ime && anyEligible s.intr) = false)
    (hh : (s.ctl.halted && !anyEligible s.intr) = false) : boundary s = executeOne (s.setHalted false) := by
  unfold boundary
  rw [if_neg (by simp [h]), if_neg (by simp [hi]), if_neg (by simp [hh])]

/-- What `fetchesNext` says. -/
theorem fetchesNext_iff (s : State) : fetchesNext s = true ↔
    s.ctl.fatal = none ∧ s.ctl.wait ≤ 1 ∧ s.ctl.stopped = false ∧ (s.ctl.ime && anyEligible s.intr) = false ∧
      (s.ctl.halted && !anyEligible s.intr) = false := by
  have e : (s.ctl.halted && !anyEligible s.intr) = !(!s.ctl.halted || anyEligible s.intr) := by
    cases s.ctl.halted <;> cases anyEligible s.intr <;> rfl
  rw [e]
  simp only [fetchesNext, faulted, atBoundary, Bool.and_eq_true, Bool.not_eq_true', Bool.not_eq_false',
    decide_eq_true_eq, Option.isSome_eq_false_iff, Option.isNone_iff_eq_none]
  constructor
  · rintro ⟨⟨⟨⟨h1, h2⟩, h3⟩, h4⟩, h5⟩
    exact ⟨h1, h2, h3, h4, h5⟩
  · rintro ⟨h1, h2, h3, h4, h5⟩
    exact ⟨⟨⟨⟨h1, h2⟩, h3⟩, h4⟩, h5⟩

theorem executeOne_next {s t : State} {i : Instr} {rest : List Byte} (hd : decode (fetchBytes s) = .instr i rest)
    (he : exec i s = .next t) : executeOne s = .next (armEi s.ctl.eiPending t) := by
  unfold executeOne
  rw [hd]
  dsimp only
  rw [he]

/-- The dot that fetches runs the decoded instruction. -/
theorem cpuDot_fetch {s t : State} {i : Instr} {rest : List Byte} (hf : fetchesNext s = true)
    (hd : decode (fetchBytes s) = .instr i rest) (he : exec i (fetchState s) = .next t) :
    cpuDot s = .next (armEi s.ctl.eiPending t) := by
  obtain ⟨-, h2, h3, h4, h5⟩ := (fetchesNext_iff s).1 hf
  rw [cpuDot_boundary h2, boundary_fetch (s := s.setWait 0) h3 h4 h5]
  exact executeOne_next (s := fetchState s) hd he

/-- Everything a step that answers a next state has done: the core had not faulted, the units ran after the CPU, and the
CPU counted down, idled, serviced an interrupt, or ran the instruction at PC. -/
theorem step_inv {s t : State} (h : step s = .next t) : s.ctl.fatal = none ∧ ∃ u, t = unitsDot u ∧
    ((1 < s.ctl.wait ∧ u = s.setWait (s.ctl.wait - 1)) ∨
     (s.ctl.wait ≤ 1 ∧ u = s.setWait 0) ∨
     (s.ctl.wait ≤ 1 ∧ s.ctl.stopped = false ∧ s.ctl.ime = true ∧ anyEligible s.intr = true ∧
       u = takeInterrupt (s.setWait 0)) ∨
     (fetchesNext s = true ∧ ∃ i rest v, decode (fetchBytes s) = .instr i rest ∧ exec i (fetchState s) = .next v ∧
       u = armEi s.ctl.eiPending v)) := by
  have hf : s.ctl.fatal = none := by
    cases hf : s.ctl.fatal with
    | none => rfl
    | some e => rw [step_fatal hf] at h; exact absurd h (by simp)
  refine ⟨hf, ?_⟩
  have key : ∀ u, cpuDot s = .next u → t = unitsDot u := fun u hu => by
    rw [step_of_cpuDot hf hu] at h
    exact (Host.Outcome.next.inj h).symm
  by_cases hw : 1 < s.ctl.wait
  · exact ⟨_, key _ (cpuDot_wait hw), Or.inl ⟨hw, rfl⟩⟩
  have hw : s.ctl.wait ≤ 1 := by omega
  have hb := cpuDot_boundary hw
  cases hs : s.ctl.stopped
  · cases hi : (s.ctl.ime && anyEligible s.intr)
    · cases hh : (s.ctl.halted && !anyEligible s.intr)
      · have hfn : fetchesNext s = true := (fetchesNext_iff s).2 ⟨hf, hw, hs, hi, hh⟩
        obtain ⟨i, rest, hd⟩ := decode_fetchBytes s
        obtain ⟨v, hv, -⟩ := run_stores i.shape (fetchState s)
        rw [← exec_eq_run] at hv
        exact ⟨_, key _ (cpuDot_fetch hfn hd hv), Or.inr (Or.inr (Or.inr ⟨hfn, i, rest, v, hd, hv, rfl⟩))⟩
      · have hh' := (Bool.and_eq_true_iff.1 hh)
        rw [boundary_idle (s := s.setWait 0) hs hh'.1 (by simpa using hh'.2)] at hb
        exact ⟨_, key _ hb, Or.inr (Or.inl ⟨hw, rfl⟩)⟩
    · have hi' := Bool.and_eq_true_iff.1 hi
      rw [boundary_service (s := s.setWait 0) hs hi] at hb
      exact ⟨_, key _ hb, Or.inr (Or.inr (Or.inl ⟨hw, rfl, hi'.1, hi'.2, rfl⟩))⟩
  · rw [boundary_stopped (s := s.setWait 0) hs] at hb
    exact ⟨_, key _ hb, Or.inr (Or.inl ⟨hw, rfl⟩)⟩

/-- From a state that has not faulted, a step always answers a next state. -/
theorem step_next {s : State} (h : s.ctl.fatal = none) : ∃ t, step s = .next t := by
  by_cases hw : 1 < s.ctl.wait
  · exact ⟨_, step_of_cpuDot h (cpuDot_wait hw)⟩
  have hw : s.ctl.wait ≤ 1 := by omega
  have hb := cpuDot_boundary hw
  cases hs : s.ctl.stopped
  · cases hi : (s.ctl.ime && anyEligible s.intr)
    · cases hh : (s.ctl.halted && !anyEligible s.intr)
      · have hfn : fetchesNext s = true := (fetchesNext_iff s).2 ⟨h, hw, hs, hi, hh⟩
        obtain ⟨i, rest, hd⟩ := decode_fetchBytes s
        obtain ⟨v, hv, -⟩ := run_stores i.shape (fetchState s)
        rw [← exec_eq_run] at hv
        exact ⟨_, step_of_cpuDot h (cpuDot_fetch hfn hd hv)⟩
      · have hh' := (Bool.and_eq_true_iff.1 hh)
        rw [boundary_idle (s := s.setWait 0) hs hh'.1 (by simpa using hh'.2)] at hb
        exact ⟨_, step_of_cpuDot h hb⟩
    · rw [boundary_service (s := s.setWait 0) hs hi] at hb
      exact ⟨_, step_of_cpuDot h hb⟩
  · rw [boundary_stopped (s := s.setWait 0) hs] at hb
    exact ⟨_, step_of_cpuDot h hb⟩

end Sys2Proof.Machine
end

