-- ==== Sys2Proof/Laws/Fetch.lean ====
section
/-!
SUPPORT. The fetch of an instruction in the statements' terms: `State.fetched` is `State.ended` with PC at `nextPc`, and
updates of registers and stores commute with it.
-/

namespace Sys2Proof.Machine

theorem fetched_pc (s : State) (n : Nat) (hn : 1 ≤ n) : (s.fetched n).regs.pc = nextPc s n := by
  show s.regs.pc + s.opcodeStep + trunc16 (n - 1) = _
  unfold nextPc State.opcodeStep trunc16
  have h1 : (1 : BitVec 16).toNat = 1 := rfl
  have h0 : (0 : BitVec 16).toNat = 0 := rfl
  cases s.ctl.haltBugLatch
  · apply BitVec.eq_of_toNat_eq
    simp only [Bool.false_eq_true, if_false, BitVec.toNat_add, BitVec.toNat_sub, BitVec.toNat_ofNat, h1, h0]
    omega
  · apply BitVec.eq_of_toNat_eq
    simp only [if_true, BitVec.toNat_add, BitVec.toNat_sub, BitVec.toNat_ofNat, h1, h0]
    omega

/-- PC past an instruction of one byte: the next address, or the same one under the halt-bug latch. -/
theorem nextPc_one (s : State) : nextPc s 1 = if s.ctl.haltBugLatch then s.regs.pc else s.regs.pc + 1 := by
  unfold nextPc
  split_ifs <;> simp

/-- The fetch of `n` bytes. -/
theorem fetched_eq (s : State) (n : Nat) (hn : 1 ≤ n) : s.fetched n = s.ended (nextPc s n) s.ctl.wait := by
  rw [← fetched_pc s n hn]
  rfl

/-- A store and the end of an instruction commute. -/
theorem writeByte_ended (s : State) (w : Word) (c : Nat) (a : Word) (v : Byte) :
    writeByte (s.ended w c) a v = (writeByte s a v).ended w c := by
  unfold State.ended
  rw [writeByte_cpu, writeByte_regs, writeByte_ctl]

theorem setWait_ended (s : State) (w : Word) (c n : Nat) : (s.ended w c).setWait n = s.ended w n := rfl
theorem setPc_ended (s : State) (w w' : Word) (c : Nat) : (s.ended w c).setPc w' = s.ended w' c := rfl
theorem setSp_ended (s : State) (w v : Word) (c : Nat) : (s.ended w c).setSp v = (s.setSp v).ended w c := rfl
theorem setHl_ended (s : State) (w v : Word) (c : Nat) : (s.ended w c).setHl v = (s.setHl v).ended w c := rfl
theorem setFlags_ended (s : State) (w : Word) (f : Flags) (c : Nat) :
    (s.ended w c).setFlags f = (s.setFlags f).ended w c := rfl
theorem setReg_ended (s : State) (w : Word) (r : Reg8) (v : Byte) (c : Nat) :
    (s.ended w c).setReg r v = (s.setReg r v).ended w c := by cases r <;> rfl
theorem setPair_ended (s : State) (w : Word) (p : Pair) (v : Word) (c : Nat) :
    (s.ended w c).setPair p v = (s.setPair p v).ended w c := by cases p <;> rfl
theorem setStackPair_ended (s : State) (w : Word) (p : StackPair) (v : Word) (c : Nat) :
    (s.ended w c).setStackPair p v = (s.setStackPair p v).ended w c := by cases p <;> rfl
theorem reg_ended (s : State) (w : Word) (r : Reg8) (c : Nat) : (s.ended w c).reg r = s.reg r := by cases r <;> rfl
theorem pair_ended (s : State) (w : Word) (p : Pair) (c : Nat) : (s.ended w c).pair p = s.pair p := by cases p <;> rfl
theorem stackPair_ended (s : State) (w : Word) (p : StackPair) (c : Nat) :
    (s.ended w c).stackPair p = s.stackPair p := by cases p <;> rfl
theorem hl_ended (s : State) (w : Word) (c : Nat) : (s.ended w c).hl = s.hl := rfl
theorem flags_ended (s : State) (w : Word) (c : Nat) : (s.ended w c).flags = s.flags := rfl
theorem sp_ended (s : State) (w : Word) (c : Nat) : (s.ended w c).regs.sp = s.regs.sp := rfl
theorem pc_ended (s : State) (w : Word) (c : Nat) : (s.ended w c).regs.pc = w := rfl
theorem readByte_ended (s : State) (w : Word) (c : Nat) (a : Word) : readByte (s.ended w c) a = readByte s a := rfl

/-- `push16` is the two stores of R13 and SP - 2. -/
theorem push16_eq (v : Word) (s : State) : push16 v s = afterPush v s := by
  have e : s.regs.sp - 1 - 1 = s.regs.sp - 2 := by rw [BitVec.sub_sub]; rfl
  have h : ∀ (t : State) (w : Word), t.setSp w = { t with regs := { t.regs with sp := w }, ctl := t.ctl } :=
    fun _ _ => rfl
  unfold push16 afterPush
  simp only [State.setSp_sp, writeByte_regs, e]
  rw [h s, writeByte_cpu s, h, writeByte_cpu, writeByte_cpu]
  simp only [writeByte_ctl]
  rfl

theorem push16_ended (v w : Word) (s : State) (c : Nat) : push16 v (s.ended w c) = (push16 v s).ended w c := by
  rw [push16_eq, push16_eq]
  unfold afterPush
  rw [sp_ended, writeByte_ended, writeByte_ended]
  rfl

/-- A pop's value and SP (R13). -/
theorem stackTop_eq (s : State) : stackTop s = poppedWord s := rfl
theorem hiByte_poppedWord (s : State) : hiByte (poppedWord s) = readByte s (s.regs.sp + 1) := hiByte_mkWord _ _
theorem loByte_poppedWord (s : State) : loByte (poppedWord s) = readByte s s.regs.sp := loByte_mkWord _ _
theorem dropTop_eq (s : State) : dropTop s = s.setSp (s.regs.sp + 2) := rfl

end Sys2Proof.Machine
end

