-- ==== Sys2Proof/Laws/Flags.lean ====
section
/-!
SUPPORT. The arithmetic of results and flags in exact terms, one lemma a computation: natural numbers and integers in
place of bit vectors.
-/

namespace Sys2Proof.Machine

theorem bitNat_eq (b : Bool) : bitNat b = b.toNat := by cases b <;> rfl

theorem trunc8_eq_zero (n : Nat) : (trunc8 n = 0) ↔ n % 256 = 0 := by
  rw [BitVec.toNat_eq, toNat_trunc8]
  rfl

/-- The flags byte of R33. -/
theorem toByte_eq (z n h c : Bool) : ({ z := z, n := n, h := h, c := c } : Flags).toByte = packFlags z n h c := by
  cases z <;> cases n <;> cases h <;> cases c <;> rfl

theorem toByte_eq' (f : Flags) : f.toByte = packFlags f.z f.n f.h f.c := toByte_eq _ _ _ _

/-- R240, R241. -/
theorem addWithCarry_eq (a v : Byte) (k : Bool) : addWithCarry a v k =
    { result := BitVec.ofNat 8 (a.toNat + v.toNat + k.toNat)
      flags := { z := decide ((a.toNat + v.toNat + k.toNat) % 256 = 0), n := false
                 h := decide (a.toNat % 16 + v.toNat % 16 + k.toNat > 0xF)
                 c := decide (a.toNat + v.toNat + k.toNat > 0xFF) } } := by
  unfold addWithCarry
  simp only [bitNat_eq, trunc8_eq_zero, lowNibble]
  rfl

theorem toNat_bitByte (k : Bool) : (bitByte k).toNat = k.toNat := by cases k <;> rfl

theorem bool_toNat_le (k : Bool) : k.toNat ≤ 1 := by cases k <;> decide

/-- The borrow chain's byte (R242, R243). -/
theorem sub_eq_ofInt (a v : Byte) (k : Bool) :
    a - v - bitByte k = BitVec.ofInt 8 ((a.toNat : Int) - v.toNat - k.toNat) := by
  have ha := a.isLt
  have hv := v.isLt
  have hk := bool_toNat_le k
  apply BitVec.eq_of_toNat_eq
  rw [BitVec.toNat_ofInt, BitVec.toNat_sub, BitVec.toNat_sub, toNat_bitByte]
  omega

theorem ofInt8_eq_zero (i : Int) : (BitVec.ofInt 8 i = 0) ↔ i % 256 = 0 := by
  rw [BitVec.toNat_eq, BitVec.toNat_ofInt]
  show (i % 256).toNat = 0 ↔ _
  omega

/-- R242, R243. -/
theorem subWithBorrow_eq (a v : Byte) (k : Bool) : subWithBorrow a v k =
    { result := BitVec.ofInt 8 ((a.toNat : Int) - v.toNat - k.toNat)
      flags := { z := decide (((a.toNat : Int) - v.toNat - k.toNat) % 256 = 0), n := true
                 h := decide (a.toNat % 16 < v.toNat % 16 + k.toNat)
                 c := decide (a.toNat < v.toNat + k.toNat) } } := by
  unfold subWithBorrow
  simp only [sub_eq_ofInt, ofInt8_eq_zero, bitNat_eq, lowNibble]

/-- R270. -/
theorem add16_eq (a v : Word) : a + v = BitVec.ofNat 16 (a.toNat + v.toNat) := by
  apply BitVec.eq_of_toNat_eq
  rw [BitVec.toNat_add, BitVec.toNat_ofNat]

/-- R273, R274, R323: a signed displacement added modulo 2^16. -/
theorem add_sext16 (w : Word) (e : Byte) : w + sext16 e = BitVec.ofInt 16 (w.toNat + e.toInt) := by
  have he := e.isLt
  have hw := w.isLt
  apply BitVec.eq_of_toNat_eq
  rw [BitVec.toNat_ofInt, BitVec.toNat_add, toNat_sext16, BitVec.toInt_eq_toNat_cond]
  split_ifs <;> omega

/-- R290-R302: the rotated or shifted byte in exact arithmetic. -/
def rotNumber (op : RotOp) (n k : Nat) : Nat :=
  match op with
  | .rlc => 2 * n + n / 128
  | .rrc => n / 2 + 128 * (n % 2)
  | .rl => 2 * n + k
  | .rr => n / 2 + 128 * k
  | .sla => 2 * n
  | .sra => n / 2 + 128 * (n / 128)
  | .swap => 16 * (n % 16) + n / 16
  | .srl => n / 2

theorem rotResult_eq (op : RotOp) (v : Byte) (k : Bool) :
    rotResult op v k = BitVec.ofNat 8 (rotNumber op v.toNat k.toNat) := by
  revert v k
  cases op <;> decide +kernel

/-- R290-R302: the bit moved out. -/
theorem rotCarry_eq (op : RotOp) (v : Byte) : rotCarry op v =
    (match op with
     | .rlc | .rl | .sla => decide (v.toNat / 128 = 1)
     | .rrc | .rr | .sra | .srl => decide (v.toNat % 2 = 1)
     | .swap => false) := by
  revert v
  cases op <;> decide +kernel

/-- R303. -/
theorem bit_eq (n : BitVec 3) (v : Byte) : (!bitOf v n.toNat) = decide (v.toNat / 2 ^ n.toNat % 2 = 0) := by
  revert v n
  decide +kernel

/-- R304. -/
theorem resBit_eq (n : BitVec 3) (v : Byte) :
    resBit n v = BitVec.ofNat 8 (v.toNat - v.toNat / 2 ^ n.toNat % 2 * 2 ^ n.toNat) := by
  revert v n
  decide +kernel

/-- R305. -/
theorem setBit_eq (n : BitVec 3) (v : Byte) :
    setBit n v = BitVec.ofNat 8 (v.toNat + (1 - v.toNat / 2 ^ n.toNat % 2) * 2 ^ n.toNat) := by
  revert v n
  decide +kernel

/-- R212-R215: the high page. -/
theorem highPage_eq (d : Byte) : highPage d = 0xFF00 + d.zeroExtend 16 := by
  revert d
  decide +kernel

/-- R252: DAA by the rule's steps on integers. -/
theorem daaOut_eq (a : Byte) (f : Flags) :
    let i : Int := a.toNat
    let hi : Bool := f.c || decide (i > 0x99)
    let up : Int := if hi then i + 0x60 else i
    let add : Int := if f.h = true ∨ up % 16 > 9 then up + 0x06 else up
    let down : Int := if f.c then i - 0x60 else i
    let sub : Int := if f.h then down - 0x06 else down
    let r : Int := if f.n then sub else add
    daaOut a f = { result := BitVec.ofInt 8 r
                   flags := { z := decide (r % 256 = 0), n := f.n, h := false, c := if f.n then f.c else hi } } := by
  obtain ⟨z, n, h, c⟩ := f
  revert a
  cases z <;> cases n <;> cases h <;> cases c <;> decide +kernel

end Sys2Proof.Machine
end

