-- ==== Sys2Proof/Laws/Forms.lean ====
section
/-!
SUPPORT. The forms of the ALU and of the CB group run from their bytes: one lemma each, before the arithmetic of their
results (Laws/Flags.lean).
-/

namespace Sys2Proof.Machine

theorem setAcc_eq (s : State) (o : Out8) :
    s.setAcc o = { s with regs := { s.regs with a := o.result, f := o.flags.toByte } } := rfl

theorem setAcc_ended (s : State) (w : Word) (o : Out8) (c : Nat) : (s.ended w c).setAcc o = (s.setAcc o).ended w c := rfl

/-- A store leaves HL. -/
theorem hl_writeByte (s : State) (a : Word) (v : Byte) : (writeByte s a v).hl = s.hl := by
  simp only [State.hl, writeByte_regs]

/-- Any form of an ALU operation ends with the operation's outcome in A and F. -/
theorem aluForm_runs {y : BitVec 3} {s : State} {bytes : List Byte} {v : Byte} {cost : Nat}
    (h : aluForm y s bytes v cost) : runsTo bytes s
      ((s.setAcc (aluOut (aluTable y) s.regs.a v s.flags.c)).ended (nextPc s bytes.length) cost) := by
  rcases h with ⟨z, r, hz, rfl, rfl, rfl⟩ | ⟨rfl, rfl, rfl⟩ | ⟨d, rfl, rfl, rfl⟩
  · refine runsTo_of_shape (sh := .aluReg (aluTable y) r) ?_ ?_
    · rcases bv3_cases y with rfl | rfl | rfl | rfl | rfl | rfl | rfl | rfl <;>
      rcases bv3_cases z with rfl | rfl | rfl | rfl | rfl | rfl | rfl | rfl <;> cases hz <;> rfl
    · simp only [Shape.run, aluReg, finish, fetched_eq s 1 (by decide), reg_ended, flags_ended, setAcc_ended,
        setWait_ended]
      rfl
  · refine runsTo_of_shape (sh := .aluMem (aluTable y)) ?_ ?_
    · rcases bv3_cases y with rfl | rfl | rfl | rfl | rfl | rfl | rfl | rfl <;> rfl
    · simp only [Shape.run, aluMem, finish, fetched_eq s 1 (by decide), reg_ended, flags_ended, setAcc_ended,
        setWait_ended, readByte_ended, hl_ended]
      rfl
  · refine runsTo_of_shape (sh := .aluImm (aluTable y) v) ?_ ?_
    · rcases bv3_cases y with rfl | rfl | rfl | rfl | rfl | rfl | rfl | rfl <;> rfl
    · simp only [Shape.run, aluImm, finish, fetched_eq s 2 (by decide), reg_ended, flags_ended, setAcc_ended,
        setWait_ended]
      rfl

/-- The operand of a CB form, as the shared operations read and write it. -/
theorem cbForm_operand {z : BitVec 3} {s : State} {v : Byte} {write : Byte → State} {cost : Nat}
    (h : cbForm z s v write cost) : v = readOperand s (r8Table z) ∧ (∀ b, write b = writeOperand (r8Table z) b s) ∧
      cost = cbCost (r8Table z) ∧ (if z = 6 then 12 else 8) = bitCost (r8Table z) := by
  rcases h with ⟨r, hz, rfl, hw, rfl⟩ | ⟨hz, rfl, hw, rfl⟩
  · rw [hz]
    refine ⟨rfl, hw, rfl, if_neg ?_⟩
    rintro rfl
    cases hz
  · rw [hz]
    refine ⟨rfl, hw, rfl, if_pos ?_⟩
    rcases bv3_cases z with rfl | rfl | rfl | rfl | rfl | rfl | rfl | rfl <;> first | rfl | cases hz

theorem readOperand_ended (s : State) (w : Word) (c : Nat) (o : Operand8) :
    readOperand (s.ended w c) o = readOperand s o := by
  cases o
  · exact reg_ended _ _ _ _
  · rfl

theorem writeOperand_ended (s : State) (w : Word) (c : Nat) (o : Operand8) (v : Byte) :
    writeOperand o v (s.ended w c) = (writeOperand o v s).ended w c := by
  cases o
  · exact setReg_ended _ _ _ _ _
  · exact writeByte_ended _ _ _ _ _

/-- A CB rotate or shift ends with its outcome in the operand and F. -/
theorem cbRot_runs (s : State) (y z : BitVec 3) : runsTo [0xCB, opcodeByte 0 y z] s
    (((writeOperand (r8Table z) (rotOut (rotTable y) (readOperand s (r8Table z)) s.flags.c).result s).setFlags
      (rotOut (rotTable y) (readOperand s (r8Table z)) s.flags.c).flags).ended (nextPc s 2) (cbCost (r8Table z))) := by
  refine runsTo_of_shape (sh := .cbRot (rotTable y) (r8Table z)) ?_ ?_
  · rcases bv3_cases y with rfl | rfl | rfl | rfl | rfl | rfl | rfl | rfl <;>
    rcases bv3_cases z with rfl | rfl | rfl | rfl | rfl | rfl | rfl | rfl <;> rfl
  · simp only [Shape.run, cbRot, finish, fetched_eq s 2 (by decide), readOperand_ended, writeOperand_ended, flags_ended,
      setFlags_ended, setWait_ended]

theorem cbBit_runs (s : State) (b z : BitVec 3) : runsTo [0xCB, opcodeByte 1 b z] s
    ((s.setFlags (bitTestFlags b (readOperand s (r8Table z)) s.flags)).ended (nextPc s 2) (bitCost (r8Table z))) := by
  refine runsTo_of_shape (sh := .cbBit b (r8Table z)) ?_ ?_
  · rcases bv3_cases b with rfl | rfl | rfl | rfl | rfl | rfl | rfl | rfl <;>
    rcases bv3_cases z with rfl | rfl | rfl | rfl | rfl | rfl | rfl | rfl <;> rfl
  · simp only [Shape.run, cbBit, finish, fetched_eq s 2 (by decide), readOperand_ended, flags_ended,
      setFlags_ended, setWait_ended]

theorem cbRes_runs (s : State) (b z : BitVec 3) : runsTo [0xCB, opcodeByte 2 b z] s
    ((writeOperand (r8Table z) (resBit b (readOperand s (r8Table z))) s).ended (nextPc s 2) (cbCost (r8Table z))) := by
  refine runsTo_of_shape (sh := .cbRes b (r8Table z)) ?_ ?_
  · rcases bv3_cases b with rfl | rfl | rfl | rfl | rfl | rfl | rfl | rfl <;>
    rcases bv3_cases z with rfl | rfl | rfl | rfl | rfl | rfl | rfl | rfl <;> rfl
  · simp only [Shape.run, cbRes, finish, fetched_eq s 2 (by decide), readOperand_ended, writeOperand_ended,
      setWait_ended]

theorem cbSet_runs (s : State) (b z : BitVec 3) : runsTo [0xCB, opcodeByte 3 b z] s
    ((writeOperand (r8Table z) (setBit b (readOperand s (r8Table z))) s).ended (nextPc s 2) (cbCost (r8Table z))) := by
  refine runsTo_of_shape (sh := .cbSet b (r8Table z)) ?_ ?_
  · rcases bv3_cases b with rfl | rfl | rfl | rfl | rfl | rfl | rfl | rfl <;>
    rcases bv3_cases z with rfl | rfl | rfl | rfl | rfl | rfl | rfl | rfl <;> rfl
  · simp only [Shape.run, cbSet, finish, fetched_eq s 2 (by decide), readOperand_ended, writeOperand_ended,
      setWait_ended]

end Sys2Proof.Machine
end

