-- ==== Sys2Proof/Laws/Units.lean ====
section
/-!
SUPPORT. What one dot of the timer and of the PPU can change, said once, and that both keep the bounds of the
invariant.
-/

namespace Sys2Proof.Machine

/-! ### Requests -/

theorem request_eq (k : Nat) (s : State) :
    request k s = { s with intr := { s.intr with pending := s.intr.pending ||| (1#5 <<< k) } } := rfl

theorem statRequest_eq (i : Nat) (s : State) : statRequest i s =
    { s with intr := { s.intr with
      pending := s.intr.pending ||| (if s.ppu.statEn.getLsbD i then (0b00010 : BitVec 5) else 0) } } := by
  unfold statRequest
  split
  · rfl
  · show s = { s with intr := { s.intr with pending := s.intr.pending ||| 0 } }
    rw [show s.intr.pending ||| (0 : BitVec 5) = s.intr.pending from BitVec.or_zero]

theorem updateLyc_eq (s : State) : updateLyc s =
    { s with
      ppu := { s.ppu with statLyc := decide (s.ppu.ly = s.ppu.lyc.toNat) }
      intr := { s.intr with pending := s.intr.pending |||
        (if s.ppu.ly = s.ppu.lyc.toNat ∧ s.ppu.statEn.getLsbD 3 = true then (0b00010 : BitVec 5) else 0) } } := by
  unfold updateLyc lycMatches
  by_cases h : s.ppu.ly = s.ppu.lyc.toNat
  · dsimp only
    rw [if_pos (by simp [h]), statRequest_eq]
    simp only [h, true_and]
  · dsimp only
    rw [if_neg (by simp [h]), if_neg (by simp [h]), show s.intr.pending ||| (0 : BitVec 5) = s.intr.pending from
      BitVec.or_zero]

/-! ### The timer -/

theorem timerDot_eq (s : State) : timerDot s =
    { s with
      timer := timerNext s.timer
      intr := { s.intr with pending := s.intr.pending |||
        (if timerOverflows s.timer then (0b00100 : BitVec 5) else 0) } } := by
  unfold timerDot
  split
  · rfl
  · show _ = { s with timer := timerNext s.timer, intr := { s.intr with pending := s.intr.pending ||| 0 } }
    rw [show s.intr.pending ||| (0 : BitVec 5) = s.intr.pending from BitVec.or_zero]

theorem timerThreshold_le (f : BitVec 2) : timerThreshold f ≤ 1024 := by
  unfold timerThreshold
  split_ifs <;> omega

theorem timerThreshold_pos (f : BitVec 2) : 0 < timerThreshold f := by
  unfold timerThreshold
  split_ifs <;> omega

theorem timerDot_unitInv {s : State} (h : UnitInv s) : UnitInv (timerDot s) := by
  obtain ⟨h1, h2, h3, h4, h5, h6, h7⟩ := h
  rw [timerDot_eq]
  refine ⟨?_, h2, h3, h4, h5, h6, h7⟩
  show (timerNext s.timer).tacc < 1024
  unfold timerNext
  dsimp only
  have := timerThreshold_le (timerRate s.timer)
  split_ifs with ha hb
  · omega
  · simp only [timerFires, ha, Bool.true_and, decide_eq_true_eq] at hb
    omega
  · exact h1

/-! ### The PPU -/

/-- `t` is `s` after a dot of the PPU: its registers that only writes change, and everything outside the PPU, the
pixels and the IF bits 0 and 1, are as before. -/
structure PpuFrame (s t : State) : Prop where
  rest : t = { s with ppu := t.ppu, pixels := t.pixels, intr := { s.intr with pending := t.intr.pending } }
  regs : t.ppu = { s.ppu with mode := t.ppu.mode, modeDot := t.ppu.modeDot, ly := t.ppu.ly,
                              composed := t.ppu.composed, lcdOffSeen := t.ppu.lcdOffSeen, statLyc := t.ppu.statLyc }
  pending : ∃ m : BitVec 5, m &&& 0b11100 = 0 ∧ t.intr.pending = s.intr.pending ||| m

theorem PpuFrame.refl (s : State) : PpuFrame s s := ⟨rfl, rfl, 0, rfl, BitVec.or_zero.symm⟩

theorem or_maskLow (m n : BitVec 5) (hm : m &&& 0b11100 = 0) (hn : n &&& 0b11100 = 0) : (m ||| n) &&& 0b11100 = 0 := by
  revert m n
  decide +kernel

theorem PpuFrame.trans {s t u : State} (h : PpuFrame s t) (h' : PpuFrame t u) : PpuFrame s u := by
  obtain ⟨h1, h2, m, h3, h4⟩ := h
  obtain ⟨g1, g2, n, g3, g4⟩ := h'
  refine ⟨?_, ?_, m ||| n, ?_, ?_⟩
  · rw [g1]; dsimp only; rw [h1]
  · rw [g2]; dsimp only; rw [h2]
  · exact or_maskLow m n h3 g3
  · rw [g4, h4, BitVec.or_assoc]

theorem ppuFrame_pending (s : State) (m : BitVec 5) (hm : m &&& 0b11100 = 0) :
    PpuFrame s { s with intr := { s.intr with pending := s.intr.pending ||| m } } := ⟨rfl, rfl, m, hm, rfl⟩

theorem ppuFrame_statRequest (i : Nat) (s : State) : PpuFrame s (statRequest i s) := by
  rw [statRequest_eq]
  refine ppuFrame_pending s _ ?_
  split <;> decide

theorem ppuFrame_request0 (s : State) : PpuFrame s (request 0 s) := ppuFrame_pending s _ (by decide)

theorem ppuFrame_enterMode (m : PpuMode) (s : State) : PpuFrame s (enterMode m s) :=
  ⟨rfl, rfl, 0, rfl, BitVec.or_zero.symm⟩

theorem ppuFrame_setLy (n : Nat) (s : State) : PpuFrame s (setLy n s) := ⟨rfl, rfl, 0, rfl, BitVec.or_zero.symm⟩

theorem ppuFrame_setComposed (b : Bool) (s : State) : PpuFrame s (setComposed b s) :=
  ⟨rfl, rfl, 0, rfl, BitVec.or_zero.symm⟩

theorem ppuFrame_composeLine (y : Nat) (s : State) : PpuFrame s (composeLine y s) :=
  ⟨rfl, rfl, 0, rfl, BitVec.or_zero.symm⟩

theorem ppuFrame_updateLyc (s : State) : PpuFrame s (updateLyc s) := by
  rw [updateLyc_eq]
  refine ⟨rfl, rfl, _, ?_, rfl⟩
  split <;> decide

theorem ppuFrame_endMode (s : State) : PpuFrame s (endMode s) := by
  unfold endMode
  split
  · unfold endHblank
    have h := (ppuFrame_setLy (s.ppu.ly + 1) s).trans (ppuFrame_updateLyc _)
    dsimp only
    split
    · exact ((h.trans (ppuFrame_enterMode _ _)).trans (ppuFrame_request0 _)).trans (ppuFrame_statRequest _ _)
    · exact ((h.trans (ppuFrame_enterMode _ _)).trans (ppuFrame_setComposed _ _)).trans (ppuFrame_statRequest _ _)
  · unfold endVblankLine
    split
    · exact ((((ppuFrame_setLy _ s).trans (ppuFrame_updateLyc _)).trans (ppuFrame_enterMode _ _)).trans
        (ppuFrame_setComposed _ _)).trans (ppuFrame_statRequest _ _)
    · exact ((ppuFrame_setLy _ s).trans (ppuFrame_updateLyc _)).trans (ppuFrame_enterMode _ _)
  · unfold endOamSearch
    dsimp only
    split
    · exact ppuFrame_enterMode _ s
    · exact ((ppuFrame_enterMode _ s).trans (ppuFrame_composeLine _ _)).trans (ppuFrame_setComposed _ _)
  · exact (ppuFrame_enterMode _ s).trans (ppuFrame_statRequest _ _)

theorem ppuFrame_modeTick (s : State) : PpuFrame s (modeTick s) := by
  have h : PpuFrame s { s with ppu := { s.ppu with modeDot := s.ppu.modeDot + 1 } } :=
    ⟨rfl, rfl, 0, rfl, BitVec.or_zero.symm⟩
  unfold modeTick
  dsimp only
  split
  · exact h.trans (ppuFrame_endMode _)
  · exact h

/-- The frame of a PPU dot (R470, R480). -/
theorem ppuFrame_ppuDot (s : State) : PpuFrame s (ppuDot s) := by
  unfold ppuDot
  split
  · split
    · exact (PpuFrame.mk rfl rfl ⟨0, rfl, BitVec.or_zero.symm⟩ : PpuFrame s (lcdRestart s)).trans (ppuFrame_modeTick _)
    · exact ppuFrame_modeTick s
  · unfold lcdOffDot
    split
    · exact PpuFrame.refl s
    · exact ⟨rfl, rfl, 0, rfl, BitVec.or_zero.symm⟩

/-! ### The mode machine's lengths -/

theorem modeLength_pos (m : PpuMode) : 1 < modeLength m := by cases m <;> decide

/-- Inside a mode. -/
theorem modeTick_inside {s : State} (h : s.ppu.modeDot + 1 ≠ modeLength s.ppu.mode) :
    modeTick s = { s with ppu := { s.ppu with modeDot := s.ppu.modeDot + 1 } } := by
  unfold modeTick
  exact if_neg h

/-- In the dot that reaches the mode's length. -/
theorem modeTick_end {s : State} (h : s.ppu.modeDot + 1 = modeLength s.ppu.mode) :
    modeTick s = endMode { s with ppu := { s.ppu with modeDot := s.ppu.modeDot + 1 } } := by
  unfold modeTick
  exact if_pos h

theorem endMode_hblank {s : State} (h : s.ppu.mode = .hblank) : endMode s = endHblank s := by
  unfold endMode
  rw [h]

theorem endMode_vblank {s : State} (h : s.ppu.mode = .vblank) : endMode s = endVblankLine s := by
  unfold endMode
  rw [h]

theorem endMode_oamSearch {s : State} (h : s.ppu.mode = .oamSearch) : endMode s = endOamSearch s := by
  unfold endMode
  rw [h]

theorem endMode_pixelTransfer {s : State} (h : s.ppu.mode = .pixelTransfer) : endMode s = endPixelTransfer s := by
  unfold endMode
  rw [h]

theorem ppuDot_on {s : State} (h : s.ppu.lcdc.getLsbD 7 = true) (ho : s.ppu.lcdOffSeen = false) :
    ppuDot s = modeTick s := by
  unfold ppuDot
  rw [if_pos (show lcdOn s = true from h), if_neg (by simp [ho])]

/-- The bounds of the mode machine alone (R471, R472). -/
structure ModeInv (p : Ppu) : Prop where
  modeDotBound : p.modeDot < modeLength p.mode
  lyVisible : p.mode ≠ .vblank → p.ly < 144
  lyVblank : p.mode = .vblank → 144 ≤ p.ly ∧ p.ly ≤ 153
  notComposed : p.mode = .oamSearch → p.composed = false
  isComposed : p.mode = .pixelTransfer → p.composed = true
  seen : p.lcdOffSeen = false

/-- Requests leave the PPU. -/
theorem statRequest_ppu (i : Nat) (s : State) : (statRequest i s).ppu = s.ppu := by rw [statRequest_eq]

theorem updateLyc_ppu (s : State) : (updateLyc s).ppu =
    { s.ppu with statLyc := decide (s.ppu.ly = s.ppu.lyc.toNat) } := by rw [updateLyc_eq]

theorem modeInv_endMode {s : State} (h1 : s.ppu.mode ≠ .vblank → s.ppu.ly < 144)
    (h2 : s.ppu.mode = .vblank → 144 ≤ s.ppu.ly ∧ s.ppu.ly ≤ 153) (h3 : s.ppu.lcdOffSeen = false) :
    ModeInv (endMode s).ppu := by
  unfold endMode
  split
  · rename_i hm
    have hl := h1 (by rw [hm]; decide)
    unfold endHblank
    dsimp only
    split
    · rename_i hv
      rw [statRequest_ppu]
      have hv' : s.ppu.ly + 1 = 144 := by
        rw [updateLyc_ppu] at hv
        exact hv
      show ModeInv { (updateLyc (setLy (s.ppu.ly + 1) s)).ppu with mode := .vblank, modeDot := 0 }
      rw [updateLyc_ppu]
      exact ⟨show 0 < 456 by decide, fun h => absurd rfl h, fun _ => ⟨Nat.le_of_eq hv'.symm, show s.ppu.ly + 1 ≤ 153 by omega⟩,
        (fun h => nomatch h), (fun h => nomatch h), h3⟩
    · rename_i hv
      rw [statRequest_ppu]
      have hv' : s.ppu.ly + 1 ≠ 144 := by
        rw [updateLyc_ppu] at hv
        exact hv
      show ModeInv { (updateLyc (setLy (s.ppu.ly + 1) s)).ppu with mode := .oamSearch, modeDot := 0, composed := false }
      rw [updateLyc_ppu]
      exact ⟨show 0 < 80 by decide, fun _ => show s.ppu.ly + 1 < 144 by omega, (fun h => nomatch h), fun _ => rfl,
        (fun h => nomatch h), h3⟩
  · rename_i hm
    have hl := h2 hm
    unfold endVblankLine
    split
    · rw [statRequest_ppu]
      show ModeInv { (updateLyc (setLy 0 s)).ppu with mode := .oamSearch, modeDot := 0, composed := false }
      rw [updateLyc_ppu]
      exact ⟨show 0 < 80 by decide, fun _ => show 0 < 144 by omega, (fun h => nomatch h), fun _ => rfl, (fun h => nomatch h), h3⟩
    · rename_i hv
      have hv' : s.ppu.ly ≠ 153 := hv
      show ModeInv { (updateLyc (setLy (s.ppu.ly + 1) s)).ppu with mode := .vblank, modeDot := 0 }
      rw [updateLyc_ppu]
      exact ⟨show 0 < 456 by decide, fun h => absurd rfl h,
        fun _ => ⟨show 144 ≤ s.ppu.ly + 1 by omega, show s.ppu.ly + 1 ≤ 153 by omega⟩,
        (fun h => nomatch h), (fun h => nomatch h), h3⟩
  · rename_i hm
    have hl := h1 (by rw [hm]; decide)
    unfold endOamSearch
    dsimp only
    split
    · rename_i hc
      exact ⟨show 0 < 172 by decide, fun _ => hl, (fun h => nomatch h), (fun h => nomatch h), fun _ => hc, h3⟩
    · exact ⟨show 0 < 172 by decide, fun _ => hl, (fun h => nomatch h), (fun h => nomatch h), fun _ => rfl, h3⟩
  · rename_i hm
    have hl := h1 (by rw [hm]; decide)
    unfold endPixelTransfer
    rw [statRequest_ppu]
    exact ⟨show 0 < 204 by decide, fun _ => hl, (fun h => nomatch h), (fun h => nomatch h), (fun h => nomatch h), h3⟩

theorem modeInv_modeTick {s : State} (h : ModeInv s.ppu) : ModeInv (modeTick s).ppu := by
  obtain ⟨h1, h2, h3, h4, h5, h6⟩ := h
  by_cases he : s.ppu.modeDot + 1 = modeLength s.ppu.mode
  · rw [modeTick_end he]
    exact modeInv_endMode h2 h3 h6
  · rw [modeTick_inside he]
    exact ⟨show s.ppu.modeDot + 1 < modeLength s.ppu.mode by omega, h2, h3, h4, h5, h6⟩

/-- A PPU dot keeps the bounds of the timer and the PPU. -/
theorem ppuDot_unitInv {s : State} (h : UnitInv s) : UnitInv (ppuDot s) := by
  have ht : (ppuDot s).timer = s.timer := by rw [(ppuFrame_ppuDot s).rest]
  obtain ⟨h1, h2, h3, h4, h5, h6, h7⟩ := h
  have fin : ∀ t : State, t.timer = s.timer → ModeInv t.ppu → UnitInv t := fun t e m => by
    obtain ⟨m1, m2, m3, m4, m5, m6⟩ := m
    exact ⟨by rw [e]; exact h1, m1, m2, m3, m4, m5, fun hs => by rw [m6] at hs; cases hs⟩
  unfold ppuDot at ht ⊢
  split_ifs at ht ⊢ with hl hs
  · refine fin _ ht (modeInv_modeTick ⟨?_, ?_, ?_, ?_, ?_, ?_⟩)
    · exact show 0 < 80 by decide
    · exact fun _ => show 0 < 144 by decide
    · exact (fun h => nomatch h)
    · exact fun _ => rfl
    · exact (fun h => nomatch h)
    · rfl
  · refine fin _ ht (modeInv_modeTick ⟨h2, h3, h4, h5, h6, by simpa using hs⟩)
  · unfold lcdOffDot
    split
    · exact ⟨h1, h2, h3, h4, h5, h6, h7⟩
    · exact ⟨h1, show 0 < 204 by decide, fun _ => show 0 < 144 by decide, (fun h => nomatch h), (fun h => nomatch h),
        (fun h => nomatch h), fun _ => ⟨rfl, rfl, rfl, rfl⟩⟩

end Sys2Proof.Machine
end

