-- ==== Sys2Proof/Laws/Interrupt.lean ====
section
/-!
SUPPORT. The shared operations of Machine/Ops.lean that write the stack and take an interrupt, field by field.
-/

namespace Sys2Proof.Machine

/-! ### What a push leaves -/

theorem push16_ctl (v : Word) (s : State) : (push16 v s).ctl = s.ctl := by
  rw [push16_eq]
  simp only [afterPush, writeByte_ctl]

theorem push16_regs (v : Word) (s : State) : (push16 v s).regs = { s.regs with sp := s.regs.sp - 2 } := by
  rw [push16_eq]
  simp only [afterPush, writeByte_regs]

theorem push16_reg (v : Word) (s : State) (r : Reg8) : (push16 v s).reg r = s.reg r := by
  cases r <;> simp only [State.reg, push16_regs]

theorem writeByte_reg (s : State) (a : Word) (v : Byte) (r : Reg8) : (writeByte s a v).reg r = s.reg r := by
  cases r <;> simp only [State.reg, writeByte_regs]

theorem writeOperand_f (o : Operand8) (v : Byte) (s : State) : (writeOperand o v s).regs.f = s.regs.f := by
  cases o
  · simp only [writeOperand, State.setReg_f]
  · simp only [writeOperand, writeByte_regs]

theorem writeOperand_ctl (o : Operand8) (v : Byte) (s : State) : (writeOperand o v s).ctl = s.ctl := by
  cases o
  · simp only [writeOperand, State.setReg_ctl]
  · simp only [writeOperand, writeByte_ctl]

/-- A write and a change of the control state commute. -/
theorem writeByte_setCtl (t : State) (c : Ctl) (x : Word) (v : Byte) :
    writeByte { t with ctl := c } x v = { writeByte t x v with ctl := c } := by
  rw [writeByte_cpu t t.regs c x v, ← writeByte_regs t x v]

theorem afterPush_setCtl (v : Word) (s : State) (c : Ctl) :
    afterPush v { s with ctl := c } = { afterPush v s with ctl := c } := by
  unfold afterPush
  dsimp only
  rw [writeByte_setCtl s c, writeByte_setCtl _ c]

/-! ### Taking an interrupt -/

/-- The lowest source pending and enabled (R403). -/
theorem lowestEligible_eq (i : Intr) (k : Nat) (hk : k < 5) (h1 : i.pending.getLsbD k = true)
    (h2 : i.enabled.getLsbD k = true) (h : ∀ j < k, (i.pending.getLsbD j && i.enabled.getLsbD j) = false) :
    lowestEligible i = k := by
  have hb : ∀ j, (eligible i).getLsbD j = (i.pending.getLsbD j && i.enabled.getLsbD j) := fun j => by simp [eligible]
  unfold lowestEligible
  simp only [hb]
  have n (j : Nat) (hj : j < k) : ¬((i.pending.getLsbD j && i.enabled.getLsbD j) = true) := by simp [h j hj]
  have y : (i.pending.getLsbD k && i.enabled.getLsbD k) = true := by simp [h1, h2]
  rcases k with _ | _ | _ | _ | _ | k
  · rw [if_pos y]
  · rw [if_neg (n 0 (by omega)), if_pos y]
  · rw [if_neg (n 0 (by omega)), if_neg (n 1 (by omega)), if_pos y]
  · rw [if_neg (n 0 (by omega)), if_neg (n 1 (by omega)), if_neg (n 2 (by omega)), if_pos y]
  · rw [if_neg (n 0 (by omega)), if_neg (n 1 (by omega)), if_neg (n 2 (by omega)), if_neg (n 3 (by omega))]
  · omega

theorem anyEligible_of_bit (i : Intr) (k : Nat) (h1 : i.pending.getLsbD k = true) (h2 : i.enabled.getLsbD k = true) :
    anyEligible i = true := by
  simp only [anyEligible, decide_eq_true_eq]
  intro h0
  have : (eligible i).getLsbD k = true := by simp [eligible, h1, h2]
  rw [h0] at this
  simp at this

/-- The service, written as two stores and the CPU's new fields (R403, R409). -/
theorem takeInterrupt_eq (s : State) : takeInterrupt s =
    { afterPush s.regs.pc (clearPending (lowestEligible s.intr) s) with
      regs := { s.regs with sp := s.regs.sp - 2, pc := vectorOf (lowestEligible s.intr) }
      ctl := { s.ctl with ime := false, eiPending := false, halted := false, wait := serviceCost } } := by
  unfold takeInterrupt
  dsimp only
  generalize lowestEligible s.intr = k
  have e : (((clearPending k s).setIme false).setEiPending false).setHalted false =
      { clearPending k s with ctl := { s.ctl with ime := false, eiPending := false, halted := false } } := rfl
  rw [push16_eq, e]
  show State.setWait (State.setPc (afterPush s.regs.pc { clearPending k s with
      ctl := { s.ctl with ime := false, eiPending := false, halted := false } }) (vectorOf k)) serviceCost = _
  rw [afterPush_setCtl]
  unfold State.setWait State.setPc
  simp only [afterPush, writeByte_regs]
  rfl

end Sys2Proof.Machine
end

