-- ==== Sys2Proof/Laws/Composer.lean ====
section
/-!
SUPPORT. What the composer looks at and where it writes: two states with the same picture data compose the same line, and
a composed line keeps the pixels' canonical form.
-/

namespace Sys2Proof.Machine

/-! ### The composer looks at VRAM, OAM and the PPU's registers only -/

/-- Two states the composer cannot tell apart (R489-R496). -/
structure SamePicture (s t : State) : Prop where
  mem : t.mem = s.mem
  lcdc : t.ppu.lcdc = s.ppu.lcdc
  scx : t.ppu.scx = s.ppu.scx
  scy : t.ppu.scy = s.ppu.scy
  wx : t.ppu.wx = s.ppu.wx
  wy : t.ppu.wy = s.ppu.wy
  bgp : t.ppu.bgp = s.ppu.bgp
  obp0 : t.ppu.obp0 = s.ppu.obp0
  obp1 : t.ppu.obp1 = s.ppu.obp1

variable {s t : State}

theorem SamePicture.bit (h : SamePicture s t) (i : Nat) : lcdcBit t i = lcdcBit s i := by
  unfold lcdcBit; rw [h.lcdc]

theorem SamePicture.tileIndex (h : SamePicture s t) (tn : Byte) (r c : Nat) (u : Bool) :
    tileIndex t tn r c u = tileIndex s tn r c u := by
  unfold Machine.tileIndex vramByte; rw [h.mem]

theorem SamePicture.mapIndex (h : SamePicture s t) (hi : Bool) (x y : Nat) : mapIndex t hi x y = mapIndex s hi x y := by
  unfold Machine.mapIndex; rw [h.tileIndex, h.bit]; unfold vramByte; rw [h.mem]

theorem SamePicture.bgWinIndex (h : SamePicture s t) (x y : Nat) : bgWinIndex t x y = bgWinIndex s x y := by
  unfold Machine.bgWinIndex bgIndex windowCovers
  rw [h.mapIndex, h.mapIndex, h.bit, h.bit, h.bit, h.bit, h.wx, h.wy, h.scx, h.scy]

theorem SamePicture.spriteHeight (h : SamePicture s t) : spriteHeight t = spriteHeight s := by
  unfold Machine.spriteHeight; rw [h.bit]

theorem SamePicture.spriteIndex (h : SamePicture s t) (x y : Nat) (p : Sprite) :
    spriteIndex t x y p = spriteIndex s x y p := by
  unfold Machine.spriteIndex; simp only [h.tileIndex, h.spriteHeight]

theorem SamePicture.spriteAt (h : SamePicture s t) : spriteAt t = spriteAt s := by
  funext i
  unfold Machine.spriteAt; rw [h.mem]

theorem SamePicture.selectSprites (h : SamePicture s t) (y : Nat) : selectSprites t y = selectSprites s y := by
  unfold Machine.selectSprites; rw [h.bit, h.spriteHeight, h.spriteAt]

theorem SamePicture.spritePixel (h : SamePicture s t) (l : List Sprite) (x y : Nat) (b : BitVec 2) :
    spritePixel t l x y b = spritePixel s l x y b := by
  induction l with
  | nil => rfl
  | cons p l ih => simp only [Machine.spritePixel, h.spriteIndex, ih, h.obp0, h.obp1]

theorem SamePicture.pixelShade (h : SamePicture s t) (l : List Sprite) (x y : Nat) :
    pixelShade t l x y = pixelShade s l x y := by
  unfold Machine.pixelShade; simp only [h.bgWinIndex, h.spritePixel, h.bgp]

/-- Composing over the same pixels gives the same pixels. -/
theorem SamePicture.linePixels (h : SamePicture s t) (hp : t.pixels = s.pixels) (y : Nat) :
    linePixels y t = linePixels y s := by
  unfold Machine.linePixels; simp only [h.selectSprites, h.pixelShade, hp]

/-- Composing changes the pixels only. -/
theorem composeLine_rest (y : Nat) (s : State) : composeLine y s = { s with pixels := linePixels y s } := rfl

@[simp] theorem composeLine_pixels (y : Nat) (s : State) : (composeLine y s).pixels = linePixels y s := rfl

@[simp] theorem setComposed_pixels (b : Bool) (s : State) : (setComposed b s).pixels = s.pixels := rfl

/-- What a dot of the PPU changes does not show in a line. -/
theorem PpuFrame.samePicture (h : PpuFrame s t) : SamePicture s t := by
  have hm : t.mem = s.mem := (congrArg State.mem h.rest).trans rfl
  have hp := h.regs
  exact ⟨hm, (congrArg Ppu.lcdc hp).trans rfl, (congrArg Ppu.scx hp).trans rfl, (congrArg Ppu.scy hp).trans rfl,
    (congrArg Ppu.wx hp).trans rfl, (congrArg Ppu.wy hp).trans rfl, (congrArg Ppu.bgp hp).trans rfl,
    (congrArg Ppu.obp0 hp).trans rfl, (congrArg Ppu.obp1 hp).trans rfl⟩

/-- A dot counter that moves does not show. -/
theorem linePixels_modeDot (s : State) (n y : Nat) :
    linePixels y { s with ppu := { s.ppu with modeDot := n } } = linePixels y s := by
  refine SamePicture.linePixels (s := s) (t := { s with ppu := { s.ppu with modeDot := n } }) ?_ rfl y
  exact ⟨rfl, rfl, rfl, rfl, rfl, rfl, rfl, rfl, rfl⟩

theorem PpuFrame.linePixels (h : PpuFrame s t) (hp : t.pixels = s.pixels) (y : Nat) :
    linePixels y t = linePixels y s := h.samePicture.linePixels hp y

/-! ### The pixels a line writes -/

theorem pixelKey_lt {x y : Nat} (hx : x < 160) (hy : y < 144) : pixelKey x y < pixelCount := by
  unfold pixelKey screenWidth pixelCount; omega

theorem foldl_pixels_wf (f : Nat → BitVec 2) (y : Nat) (xs : List Nat) (px : List (Nat × BitVec 2))
    (h : Store.wf px = true) :
    Store.wf (xs.foldl (fun px x => Store.write px (pixelKey x y) (f x)) px) = true := by
  induction xs generalizing px with
  | nil => exact h
  | cons x xs ih => exact ih _ (Store.write_wf _ _ h)

theorem foldl_pixels_keys (f : Nat → BitVec 2) {y : Nat} (hy : y < 144) (xs : List Nat) (hx : ∀ x ∈ xs, x < 160)
    (px : List (Nat × BitVec 2)) (h : keysOk (fun k => decide (k < pixelCount)) px = true) :
    keysOk (fun k => decide (k < pixelCount))
      (xs.foldl (fun px x => Store.write px (pixelKey x y) (f x)) px) = true := by
  induction xs generalizing px with
  | nil => exact h
  | cons x xs ih =>
    exact ih (fun z hz => hx z (List.mem_cons_of_mem _ hz)) _
      (keysOk_write _ (decide_eq_true (pixelKey_lt (hx x List.mem_cons_self) hy)) h)

/-! ### The pixels after a dot -/

theorem updateLyc_pixels (s : State) : (updateLyc s).pixels = s.pixels := by rw [updateLyc_eq]

theorem statRequest_pixels (i : Nat) (s : State) : (statRequest i s).pixels = s.pixels := by rw [statRequest_eq]

/-- The end of a mode composes the line, in OAM-search, or leaves the pixels. -/
theorem endMode_pixels (s : State) : (endMode s).pixels = s.pixels ∨
    (s.ppu.mode = .oamSearch ∧ (endMode s).pixels = (composeLine s.ppu.ly s).pixels) := by
  unfold endMode
  split
  · left
    unfold endHblank
    dsimp only
    split
    · rw [statRequest_pixels]
      exact updateLyc_pixels (setLy (s.ppu.ly + 1) s)
    · rw [statRequest_pixels]
      exact updateLyc_pixels (setLy (s.ppu.ly + 1) s)
  · left
    unfold endVblankLine
    split
    · rw [statRequest_pixels]
      exact updateLyc_pixels (setLy 0 s)
    · exact updateLyc_pixels (setLy (s.ppu.ly + 1) s)
  · rename_i hm
    unfold endOamSearch
    dsimp only
    split
    · exact Or.inl rfl
    · refine Or.inr ⟨hm, ?_⟩
      rw [setComposed_pixels, composeLine_pixels, composeLine_pixels]
      exact (ppuFrame_enterMode .pixelTransfer s).linePixels rfl s.ppu.ly
  · left
    unfold endPixelTransfer
    rw [statRequest_pixels]
    rfl

/-- The end of OAM-search (R472). -/
theorem endOamSearch_eq (s : State) : endOamSearch s =
    { s with
      ppu := { s.ppu with mode := .pixelTransfer, modeDot := 0, composed := true }
      pixels := if s.ppu.composed = true then s.pixels else linePixels s.ppu.ly s } := by
  have e : linePixels s.ppu.ly (enterMode .pixelTransfer s) = linePixels s.ppu.ly s :=
    (ppuFrame_enterMode .pixelTransfer s).linePixels rfl s.ppu.ly
  have h : endOamSearch s = if s.ppu.composed = true then enterMode .pixelTransfer s
      else setComposed true (composeLine s.ppu.ly (enterMode .pixelTransfer s)) := rfl
  rw [h, composeLine, e]
  by_cases hc : s.ppu.composed = true
  · rw [if_pos hc, if_pos hc, ← hc]
    rfl
  · rw [if_neg hc, if_neg hc]
    rfl

/-- A line composed on the screen keeps the pixels' canonical form. -/
theorem composeLine_pixelsOk (y : Nat) (hy : y < 144) (s : State) (h1 : Store.wf s.pixels = true)
    (h2 : keysOk (fun k => decide (k < pixelCount)) s.pixels = true) :
    Store.wf (composeLine y s).pixels = true ∧
      keysOk (fun k => decide (k < pixelCount)) (composeLine y s).pixels = true := by
  rw [composeLine_pixels]
  unfold linePixels
  dsimp only
  have hr : ∀ x ∈ List.range screenWidth, x < 160 := fun x hx => List.mem_range.1 hx
  generalize List.range screenWidth = xs at hr
  exact ⟨foldl_pixels_wf _ _ _ _ h1, foldl_pixels_keys _ hy _ hr _ h2⟩

theorem modeTick_pixelsOk {s : State} (hm : s.ppu.mode = .oamSearch → s.ppu.ly < 144) (h1 : Store.wf s.pixels = true)
    (h2 : keysOk (fun k => decide (k < pixelCount)) s.pixels = true) :
    Store.wf (modeTick s).pixels = true ∧ keysOk (fun k => decide (k < pixelCount)) (modeTick s).pixels = true := by
  unfold modeTick
  dsimp only
  split
  · rcases endMode_pixels { s with ppu := { s.ppu with modeDot := s.ppu.modeDot + 1 } } with h | ⟨h, e⟩
    · rw [h]
      exact ⟨h1, h2⟩
    · rw [e]
      exact composeLine_pixelsOk _ (hm h) _ h1 h2
  · exact ⟨h1, h2⟩

/-- A PPU dot keeps the memories' invariant. -/
theorem ppuDot_memInv {s : State} (hu : UnitInv s) (h : MemInv s) : MemInv (ppuDot s) := by
  have hp : Store.wf (ppuDot s).pixels = true ∧
      keysOk (fun k => decide (k < pixelCount)) (ppuDot s).pixels = true := by
    unfold ppuDot
    split
    · split
      · exact modeTick_pixelsOk (s := lcdRestart s) (fun _ => show 0 < 144 by decide) h.pixelsWf h.pixelKeys
      · exact modeTick_pixelsOk (fun hm => hu.lyVisible (by rw [hm]; decide)) h.pixelsWf h.pixelKeys
    · unfold lcdOffDot
      split
      · exact ⟨h.pixelsWf, h.pixelKeys⟩
      · exact ⟨h.pixelsWf, h.pixelKeys⟩
  rw [(ppuFrame_ppuDot s).rest]
  obtain ⟨h1, h2, h3, h4, h5, h6, h7, h8, h9, h10, h11, h12, h13, h14⟩ := h
  exact ⟨h1, h2, hp.1, hp.2, h5, h6, h7, h8, h9, h10, h11, h12, h13, h14⟩

theorem timerDot_memInv {s : State} (h : MemInv s) : MemInv (timerDot s) := by
  rw [timerDot_eq]
  obtain ⟨h1, h2, h3, h4, h5, h6, h7, h8, h9, h10, h11, h12, h13, h14⟩ := h
  exact ⟨h1, h2, h3, h4, h5, h6, h7, h8, h9, h10, h11, h12, h13, h14⟩

end Sys2Proof.Machine
end

