-- ==== Sys2Proof/Laws/Construct.lean ====
section
/-!
SUPPORT. Construction: the state after reset is the construction of the default arguments, and a constructed core is
the reset state of an admitted image.
-/

namespace Sys2Proof.Machine

/-- `State.reset` is what `construct` gives for the defaults that logs 2, 3 and 4 name. -/
theorem construct_default : construct BuildArgs.default = .next State.reset := rfl

/-- A core exists only for an admitted image, and then it is in the reset state (R148, R531). -/
theorem construct_cases {b : BuildArgs} {s : State} (h : construct b = .next s) :
    minImageLen ≤ b.imageLen ∧ ∃ f n, familyOfType (imageByte b headerType) = some f ∧
      ramLenFor f (imageByte b headerRamSize) = some n ∧ s = resetState b f n := by
  unfold construct at h
  split at h
  · cases h
  · refine ⟨by omega, ?_⟩
    split at h
    · cases h
    · split at h
      · cases h
      · cases h
        exact ⟨_, _, by assumption, by assumption, rfl⟩

/-- The RAM length is one of the table of R134, and 0 for a ROM-only cartridge. -/
theorem ramLenFor_mem {f : Family} {c : Byte} {n : Nat} (h : ramLenFor f c = some n) :
    n ∈ ramLengths ∧ (f = .romOnly → n = 0) := by
  cases f
  · cases h
    exact ⟨by decide, fun _ => rfl⟩
  · refine ⟨?_, fun h => by cases h⟩
    change ramLenOfCode c = some n at h
    unfold ramLenOfCode at h
    split_ifs at h <;> cases h <;> decide

end Sys2Proof.Machine
end

