-- ==== Sys2Proof/Laws/PerInstr.lean ====
section
/-!
SUPPORT. Statements made for every instruction, one lemma per constructor. `ByteCount`: the encoder gives as many bytes
as the table of 30_encoding.md R175 gives the instruction's form.
-/

open Sys2Proof Sys2Proof.Machine

namespace Sys2Proof.Laws.ByteCount

/-- R175: the encoding of the instruction has its form's length. -/
def Statement (i : Instr) : Prop := (encode i).length = i.shape.length

theorem ldBCd16 (w : Word) : Statement (.ldBCd16 w) := rfl
theorem ldBd8 (n : Byte) : Statement (.ldBd8 n) := rfl
theorem ldMemA16SP (w : Word) : Statement (.ldMemA16SP w) := rfl
theorem ldCd8 (n : Byte) : Statement (.ldCd8 n) := rfl
theorem ldDEd16 (w : Word) : Statement (.ldDEd16 w) := rfl
theorem ldDd8 (n : Byte) : Statement (.ldDd8 n) := rfl
theorem ldEd8 (n : Byte) : Statement (.ldEd8 n) := rfl
theorem ldHLd16 (w : Word) : Statement (.ldHLd16 w) := rfl
theorem ldHd8 (n : Byte) : Statement (.ldHd8 n) := rfl
theorem ldLd8 (n : Byte) : Statement (.ldLd8 n) := rfl
theorem ldSPd16 (w : Word) : Statement (.ldSPd16 w) := rfl
theorem ldMemHLd8 (n : Byte) : Statement (.ldMemHLd8 n) := rfl
theorem ldAd8 (n : Byte) : Statement (.ldAd8 n) := rfl
theorem ldhMemA8A (n : Byte) : Statement (.ldhMemA8A n) := rfl
theorem ldMemA16A (w : Word) : Statement (.ldMemA16A w) := rfl
theorem ldhAMemA8 (n : Byte) : Statement (.ldhAMemA8 n) := rfl
theorem ldAMemA16 (w : Word) : Statement (.ldAMemA16 w) := rfl
theorem addAd8 (n : Byte) : Statement (.addAd8 n) := rfl
theorem adcAd8 (n : Byte) : Statement (.adcAd8 n) := rfl
theorem subAd8 (n : Byte) : Statement (.subAd8 n) := rfl
theorem sbcAd8 (n : Byte) : Statement (.sbcAd8 n) := rfl
theorem andAd8 (n : Byte) : Statement (.andAd8 n) := rfl
theorem xorAd8 (n : Byte) : Statement (.xorAd8 n) := rfl
theorem orAd8 (n : Byte) : Statement (.orAd8 n) := rfl
theorem cpAd8 (n : Byte) : Statement (.cpAd8 n) := rfl
theorem addSPe8 (e : Byte) : Statement (.addSPe8 e) := rfl
theorem ldHLSPe8 (e : Byte) : Statement (.ldHLSPe8 e) := rfl
theorem jrE8 (e : Byte) : Statement (.jrE8 e) := rfl
theorem jrNZe8 (e : Byte) : Statement (.jrNZe8 e) := rfl
theorem jrZe8 (e : Byte) : Statement (.jrZe8 e) := rfl
theorem jrNCe8 (e : Byte) : Statement (.jrNCe8 e) := rfl
theorem jrCe8 (e : Byte) : Statement (.jrCe8 e) := rfl
theorem jpNZA16 (w : Word) : Statement (.jpNZA16 w) := rfl
theorem jpA16 (w : Word) : Statement (.jpA16 w) := rfl
theorem callNZA16 (w : Word) : Statement (.callNZA16 w) := rfl
theorem jpZA16 (w : Word) : Statement (.jpZA16 w) := rfl
theorem callZA16 (w : Word) : Statement (.callZA16 w) := rfl
theorem callA16 (w : Word) : Statement (.callA16 w) := rfl
theorem jpNCA16 (w : Word) : Statement (.jpNCA16 w) := rfl
theorem callNCA16 (w : Word) : Statement (.callNCA16 w) := rfl
theorem jpCA16 (w : Word) : Statement (.jpCA16 w) := rfl
theorem callCA16 (w : Word) : Statement (.callCA16 w) := rfl
theorem stop (n : Byte) : Statement (.stop n) := rfl
theorem prefixCB (c : Byte) : Statement (.prefixCB c) := by revert c; unfold Statement; decide +kernel
theorem ldMemBCA : Statement .ldMemBCA := rfl
theorem ldAMemBC : Statement .ldAMemBC := rfl
theorem ldMemDEA : Statement .ldMemDEA := rfl
theorem ldAMemDE : Statement .ldAMemDE := rfl
theorem ldMemHLIncA : Statement .ldMemHLIncA := rfl
theorem ldAMemHLInc : Statement .ldAMemHLInc := rfl
theorem ldMemHLDecA : Statement .ldMemHLDecA := rfl
theorem ldAMemHLDec : Statement .ldAMemHLDec := rfl
theorem ldBB : Statement .ldBB := rfl
theorem ldBC : Statement .ldBC := rfl
theorem ldBD : Statement .ldBD := rfl
theorem ldBE : Statement .ldBE := rfl
theorem ldBH : Statement .ldBH := rfl
theorem ldBL : Statement .ldBL := rfl
theorem ldBMemHL : Statement .ldBMemHL := rfl
theorem ldBA : Statement .ldBA := rfl
theorem ldCB : Statement .ldCB := rfl
theorem ldCC : Statement .ldCC := rfl
theorem ldCD : Statement .ldCD := rfl
theorem ldCE : Statement .ldCE := rfl
theorem ldCH : Statement .ldCH := rfl
theorem ldCL : Statement .ldCL := rfl
theorem ldCMemHL : Statement .ldCMemHL := rfl
theorem ldCA : Statement .ldCA := rfl
theorem ldDB : Statement .ldDB := rfl
theorem ldDC : Statement .ldDC := rfl
theorem ldDD : Statement .ldDD := rfl
theorem ldDE : Statement .ldDE := rfl
theorem ldDH : Statement .ldDH := rfl
theorem ldDL : Statement .ldDL := rfl
theorem ldDMemHL : Statement .ldDMemHL := rfl
theorem ldDA : Statement .ldDA := rfl
theorem ldEB : Statement .ldEB := rfl
theorem ldEC : Statement .ldEC := rfl
theorem ldED : Statement .ldED := rfl
theorem ldEE : Statement .ldEE := rfl
theorem ldEH : Statement .ldEH := rfl
theorem ldEL : Statement .ldEL := rfl
theorem ldEMemHL : Statement .ldEMemHL := rfl
theorem ldEA : Statement .ldEA := rfl
theorem ldHB : Statement .ldHB := rfl
theorem ldHC : Statement .ldHC := rfl
theorem ldHD : Statement .ldHD := rfl
theorem ldHE : Statement .ldHE := rfl
theorem ldHH : Statement .ldHH := rfl
theorem ldHL : Statement .ldHL := rfl
theorem ldHMemHL : Statement .ldHMemHL := rfl
theorem ldHA : Statement .ldHA := rfl
theorem ldLB : Statement .ldLB := rfl
theorem ldLC : Statement .ldLC := rfl
theorem ldLD : Statement .ldLD := rfl
theorem ldLE : Statement .ldLE := rfl
theorem ldLH : Statement .ldLH := rfl
theorem ldLL : Statement .ldLL := rfl
theorem ldLMemHL : Statement .ldLMemHL := rfl
theorem ldLA : Statement .ldLA := rfl
theorem ldMemHLB : Statement .ldMemHLB := rfl
theorem ldMemHLC : Statement .ldMemHLC := rfl
theorem ldMemHLD : Statement .ldMemHLD := rfl
theorem ldMemHLE : Statement .ldMemHLE := rfl
theorem ldMemHLH : Statement .ldMemHLH := rfl
theorem ldMemHLL : Statement .ldMemHLL := rfl
theorem ldMemHLA : Statement .ldMemHLA := rfl
theorem ldAB : Statement .ldAB := rfl
theorem ldAC : Statement .ldAC := rfl
theorem ldAD : Statement .ldAD := rfl
theorem ldAE : Statement .ldAE := rfl
theorem ldAH : Statement .ldAH := rfl
theorem ldAL : Statement .ldAL := rfl
theorem ldAMemHL : Statement .ldAMemHL := rfl
theorem ldAA : Statement .ldAA := rfl
theorem popBC : Statement .popBC := rfl
theorem pushBC : Statement .pushBC := rfl
theorem popDE : Statement .popDE := rfl
theorem pushDE : Statement .pushDE := rfl
theorem popHL : Statement .popHL := rfl
theorem ldMemCA : Statement .ldMemCA := rfl
theorem pushHL : Statement .pushHL := rfl
theorem popAF : Statement .popAF := rfl
theorem ldAMemC : Statement .ldAMemC := rfl
theorem pushAF : Statement .pushAF := rfl
theorem ldSPHL : Statement .ldSPHL := rfl
theorem incB : Statement .incB := rfl
theorem decB : Statement .decB := rfl
theorem incC : Statement .incC := rfl
theorem decC : Statement .decC := rfl
theorem incD : Statement .incD := rfl
theorem decD : Statement .decD := rfl
theorem incE : Statement .incE := rfl
theorem decE : Statement .decE := rfl
theorem incH : Statement .incH := rfl
theorem decH : Statement .decH := rfl
theorem daa : Statement .daa := rfl
theorem incL : Statement .incL := rfl
theorem decL : Statement .decL := rfl
theorem cpl : Statement .cpl := rfl
theorem incMemHL : Statement .incMemHL := rfl
theorem decMemHL : Statement .decMemHL := rfl
theorem scf : Statement .scf := rfl
theorem incA : Statement .incA := rfl
theorem decA : Statement .decA := rfl
theorem ccf : Statement .ccf := rfl
theorem addAB : Statement .addAB := rfl
theorem addAC : Statement .addAC := rfl
theorem addAD : Statement .addAD := rfl
theorem addAE : Statement .addAE := rfl
theorem addAH : Statement .addAH := rfl
theorem addAL : Statement .addAL := rfl
theorem addAMemHL : Statement .addAMemHL := rfl
theorem addAA : Statement .addAA := rfl
theorem adcAB : Statement .adcAB := rfl
theorem adcAC : Statement .adcAC := rfl
theorem adcAD : Statement .adcAD := rfl
theorem adcAE : Statement .adcAE := rfl
theorem adcAH : Statement .adcAH := rfl
theorem adcAL : Statement .adcAL := rfl
theorem adcAMemHL : Statement .adcAMemHL := rfl
theorem adcAA : Statement .adcAA := rfl
theorem subAB : Statement .subAB := rfl
theorem subAC : Statement .subAC := rfl
theorem subAD : Statement .subAD := rfl
theorem subAE : Statement .subAE := rfl
theorem subAH : Statement .subAH := rfl
theorem subAL : Statement .subAL := rfl
theorem subAMemHL : Statement .subAMemHL := rfl
theorem subAA : Statement .subAA := rfl
theorem sbcAB : Statement .sbcAB := rfl
theorem sbcAC : Statement .sbcAC := rfl
theorem sbcAD : Statement .sbcAD := rfl
theorem sbcAE : Statement .sbcAE := rfl
theorem sbcAH : Statement .sbcAH := rfl
theorem sbcAL : Statement .sbcAL := rfl
theorem sbcAMemHL : Statement .sbcAMemHL := rfl
theorem sbcAA : Statement .sbcAA := rfl
theorem andAB : Statement .andAB := rfl
theorem andAC : Statement .andAC := rfl
theorem andAD : Statement .andAD := rfl
theorem andAE : Statement .andAE := rfl
theorem andAH : Statement .andAH := rfl
theorem andAL : Statement .andAL := rfl
theorem andAMemHL : Statement .andAMemHL := rfl
theorem andAA : Statement .andAA := rfl
theorem xorAB : Statement .xorAB := rfl
theorem xorAC : Statement .xorAC := rfl
theorem xorAD : Statement .xorAD := rfl
theorem xorAE : Statement .xorAE := rfl
theorem xorAH : Statement .xorAH := rfl
theorem xorAL : Statement .xorAL := rfl
theorem xorAMemHL : Statement .xorAMemHL := rfl
theorem xorAA : Statement .xorAA := rfl
theorem orAB : Statement .orAB := rfl
theorem orAC : Statement .orAC := rfl
theorem orAD : Statement .orAD := rfl
theorem orAE : Statement .orAE := rfl
theorem orAH : Statement .orAH := rfl
theorem orAL : Statement .orAL := rfl
theorem orAMemHL : Statement .orAMemHL := rfl
theorem orAA : Statement .orAA := rfl
theorem cpAB : Statement .cpAB := rfl
theorem cpAC : Statement .cpAC := rfl
theorem cpAD : Statement .cpAD := rfl
theorem cpAE : Statement .cpAE := rfl
theorem cpAH : Statement .cpAH := rfl
theorem cpAL : Statement .cpAL := rfl
theorem cpAMemHL : Statement .cpAMemHL := rfl
theorem cpAA : Statement .cpAA := rfl
theorem incBC : Statement .incBC := rfl
theorem addHLBC : Statement .addHLBC := rfl
theorem decBC : Statement .decBC := rfl
theorem incDE : Statement .incDE := rfl
theorem addHLDE : Statement .addHLDE := rfl
theorem decDE : Statement .decDE := rfl
theorem incHL : Statement .incHL := rfl
theorem addHLHL : Statement .addHLHL := rfl
theorem decHL : Statement .decHL := rfl
theorem incSP : Statement .incSP := rfl
theorem addHLSP : Statement .addHLSP := rfl
theorem decSP : Statement .decSP := rfl
theorem rlca : Statement .rlca := rfl
theorem rrca : Statement .rrca := rfl
theorem rla : Statement .rla := rfl
theorem rra : Statement .rra := rfl
theorem rlcB : Statement .rlcB := rfl
theorem rlcC : Statement .rlcC := rfl
theorem rlcD : Statement .rlcD := rfl
theorem rlcE : Statement .rlcE := rfl
theorem rlcH : Statement .rlcH := rfl
theorem rlcL : Statement .rlcL := rfl
theorem rlcMemHL : Statement .rlcMemHL := rfl
theorem rlcA : Statement .rlcA := rfl
theorem rrcB : Statement .rrcB := rfl
theorem rrcC : Statement .rrcC := rfl
theorem rrcD : Statement .rrcD := rfl
theorem rrcE : Statement .rrcE := rfl
theorem rrcH : Statement .rrcH := rfl
theorem rrcL : Statement .rrcL := rfl
theorem rrcMemHL : Statement .rrcMemHL := rfl
theorem rrcA : Statement .rrcA := rfl
theorem rlB : Statement .rlB := rfl
theorem rlC : Statement .rlC := rfl
theorem rlD : Statement .rlD := rfl
theorem rlE : Statement .rlE := rfl
theorem rlH : Statement .rlH := rfl
theorem rlL : Statement .rlL := rfl
theorem rlMemHL : Statement .rlMemHL := rfl
theorem rlA : Statement .rlA := rfl
theorem rrB : Statement .rrB := rfl
theorem rrC : Statement .rrC := rfl
theorem rrD : Statement .rrD := rfl
theorem rrE : Statement .rrE := rfl
theorem rrH : Statement .rrH := rfl
theorem rrL : Statement .rrL := rfl
theorem rrMemHL : Statement .rrMemHL := rfl
theorem rrA : Statement .rrA := rfl
theorem slaB : Statement .slaB := rfl
theorem slaC : Statement .slaC := rfl
theorem slaD : Statement .slaD := rfl
theorem slaE : Statement .slaE := rfl
theorem slaH : Statement .slaH := rfl
theorem slaL : Statement .slaL := rfl
theorem slaMemHL : Statement .slaMemHL := rfl
theorem slaA : Statement .slaA := rfl
theorem sraB : Statement .sraB := rfl
theorem sraC : Statement .sraC := rfl
theorem sraD : Statement .sraD := rfl
theorem sraE : Statement .sraE := rfl
theorem sraH : Statement .sraH := rfl
theorem sraL : Statement .sraL := rfl
theorem sraMemHL : Statement .sraMemHL := rfl
theorem sraA : Statement .sraA := rfl
theorem swapB : Statement .swapB := rfl
theorem swapC : Statement .swapC := rfl
theorem swapD : Statement .swapD := rfl
theorem swapE : Statement .swapE := rfl
theorem swapH : Statement .swapH := rfl
theorem swapL : Statement .swapL := rfl
theorem swapMemHL : Statement .swapMemHL := rfl
theorem swapA : Statement .swapA := rfl
theorem srlB : Statement .srlB := rfl
theorem srlC : Statement .srlC := rfl
theorem srlD : Statement .srlD := rfl
theorem srlE : Statement .srlE := rfl
theorem srlH : Statement .srlH := rfl
theorem srlL : Statement .srlL := rfl
theorem srlMemHL : Statement .srlMemHL := rfl
theorem srlA : Statement .srlA := rfl
theorem bit0B : Statement .bit0B := rfl
theorem bit0C : Statement .bit0C := rfl
theorem bit0D : Statement .bit0D := rfl
theorem bit0E : Statement .bit0E := rfl
theorem bit0H : Statement .bit0H := rfl
theorem bit0L : Statement .bit0L := rfl
theorem bit0MemHL : Statement .bit0MemHL := rfl
theorem bit0A : Statement .bit0A := rfl
theorem bit1B : Statement .bit1B := rfl
theorem bit1C : Statement .bit1C := rfl
theorem bit1D : Statement .bit1D := rfl
theorem bit1E : Statement .bit1E := rfl
theorem bit1H : Statement .bit1H := rfl
theorem bit1L : Statement .bit1L := rfl
theorem bit1MemHL : Statement .bit1MemHL := rfl
theorem bit1A : Statement .bit1A := rfl
theorem bit2B : Statement .bit2B := rfl
theorem bit2C : Statement .bit2C := rfl
theorem bit2D : Statement .bit2D := rfl
theorem bit2E : Statement .bit2E := rfl
theorem bit2H : Statement .bit2H := rfl
theorem bit2L : Statement .bit2L := rfl
theorem bit2MemHL : Statement .bit2MemHL := rfl
theorem bit2A : Statement .bit2A := rfl
theorem bit3B : Statement .bit3B := rfl
theorem bit3C : Statement .bit3C := rfl
theorem bit3D : Statement .bit3D := rfl
theorem bit3E : Statement .bit3E := rfl
theorem bit3H : Statement .bit3H := rfl
theorem bit3L : Statement .bit3L := rfl
theorem bit3MemHL : Statement .bit3MemHL := rfl
theorem bit3A : Statement .bit3A := rfl
theorem bit4B : Statement .bit4B := rfl
theorem bit4C : Statement .bit4C := rfl
theorem bit4D : Statement .bit4D := rfl
theorem bit4E : Statement .bit4E := rfl
theorem bit4H : Statement .bit4H := rfl
theorem bit4L : Statement .bit4L := rfl
theorem bit4MemHL : Statement .bit4MemHL := rfl
theorem bit4A : Statement .bit4A := rfl
theorem bit5B : Statement .bit5B := rfl
theorem bit5C : Statement .bit5C := rfl
theorem bit5D : Statement .bit5D := rfl
theorem bit5E : Statement .bit5E := rfl
theorem bit5H : Statement .bit5H := rfl
theorem bit5L : Statement .bit5L := rfl
theorem bit5MemHL : Statement .bit5MemHL := rfl
theorem bit5A : Statement .bit5A := rfl
theorem bit6B : Statement .bit6B := rfl
theorem bit6C : Statement .bit6C := rfl
theorem bit6D : Statement .bit6D := rfl
theorem bit6E : Statement .bit6E := rfl
theorem bit6H : Statement .bit6H := rfl
theorem bit6L : Statement .bit6L := rfl
theorem bit6MemHL : Statement .bit6MemHL := rfl
theorem bit6A : Statement .bit6A := rfl
theorem bit7B : Statement .bit7B := rfl
theorem bit7C : Statement .bit7C := rfl
theorem bit7D : Statement .bit7D := rfl
theorem bit7E : Statement .bit7E := rfl
theorem bit7H : Statement .bit7H := rfl
theorem bit7L : Statement .bit7L := rfl
theorem bit7MemHL : Statement .bit7MemHL := rfl
theorem bit7A : Statement .bit7A := rfl
theorem res0B : Statement .res0B := rfl
theorem res0C : Statement .res0C := rfl
theorem res0D : Statement .res0D := rfl
theorem res0E : Statement .res0E := rfl
theorem res0H : Statement .res0H := rfl
theorem res0L : Statement .res0L := rfl
theorem res0MemHL : Statement .res0MemHL := rfl
theorem res0A : Statement .res0A := rfl
theorem res1B : Statement .res1B := rfl
theorem res1C : Statement .res1C := rfl
theorem res1D : Statement .res1D := rfl
theorem res1E : Statement .res1E := rfl
theorem res1H : Statement .res1H := rfl
theorem res1L : Statement .res1L := rfl
theorem res1MemHL : Statement .res1MemHL := rfl
theorem res1A : Statement .res1A := rfl
theorem res2B : Statement .res2B := rfl
theorem res2C : Statement .res2C := rfl
theorem res2D : Statement .res2D := rfl
theorem res2E : Statement .res2E := rfl
theorem res2H : Statement .res2H := rfl
theorem res2L : Statement .res2L := rfl
theorem res2MemHL : Statement .res2MemHL := rfl
theorem res2A : Statement .res2A := rfl
theorem res3B : Statement .res3B := rfl
theorem res3C : Statement .res3C := rfl
theorem res3D : Statement .res3D := rfl
theorem res3E : Statement .res3E := rfl
theorem res3H : Statement .res3H := rfl
theorem res3L : Statement .res3L := rfl
theorem res3MemHL : Statement .res3MemHL := rfl
theorem res3A : Statement .res3A := rfl
theorem res4B : Statement .res4B := rfl
theorem res4C : Statement .res4C := rfl
theorem res4D : Statement .res4D := rfl
theorem res4E : Statement .res4E := rfl
theorem res4H : Statement .res4H := rfl
theorem res4L : Statement .res4L := rfl
theorem res4MemHL : Statement .res4MemHL := rfl
theorem res4A : Statement .res4A := rfl
theorem res5B : Statement .res5B := rfl
theorem res5C : Statement .res5C := rfl
theorem res5D : Statement .res5D := rfl
theorem res5E : Statement .res5E := rfl
theorem res5H : Statement .res5H := rfl
theorem res5L : Statement .res5L := rfl
theorem res5MemHL : Statement .res5MemHL := rfl
theorem res5A : Statement .res5A := rfl
theorem res6B : Statement .res6B := rfl
theorem res6C : Statement .res6C := rfl
theorem res6D : Statement .res6D := rfl
theorem res6E : Statement .res6E := rfl
theorem res6H : Statement .res6H := rfl
theorem res6L : Statement .res6L := rfl
theorem res6MemHL : Statement .res6MemHL := rfl
theorem res6A : Statement .res6A := rfl
theorem res7B : Statement .res7B := rfl
theorem res7C : Statement .res7C := rfl
theorem res7D : Statement .res7D := rfl
theorem res7E : Statement .res7E := rfl
theorem res7H : Statement .res7H := rfl
theorem res7L : Statement .res7L := rfl
theorem res7MemHL : Statement .res7MemHL := rfl
theorem res7A : Statement .res7A := rfl
theorem set0B : Statement .set0B := rfl
theorem set0C : Statement .set0C := rfl
theorem set0D : Statement .set0D := rfl
theorem set0E : Statement .set0E := rfl
theorem set0H : Statement .set0H := rfl
theorem set0L : Statement .set0L := rfl
theorem set0MemHL : Statement .set0MemHL := rfl
theorem set0A : Statement .set0A := rfl
theorem set1B : Statement .set1B := rfl
theorem set1C : Statement .set1C := rfl
theorem set1D : Statement .set1D := rfl
theorem set1E : Statement .set1E := rfl
theorem set1H : Statement .set1H := rfl
theorem set1L : Statement .set1L := rfl
theorem set1MemHL : Statement .set1MemHL := rfl
theorem set1A : Statement .set1A := rfl
theorem set2B : Statement .set2B := rfl
theorem set2C : Statement .set2C := rfl
theorem set2D : Statement .set2D := rfl
theorem set2E : Statement .set2E := rfl
theorem set2H : Statement .set2H := rfl
theorem set2L : Statement .set2L := rfl
theorem set2MemHL : Statement .set2MemHL := rfl
theorem set2A : Statement .set2A := rfl
theorem set3B : Statement .set3B := rfl
theorem set3C : Statement .set3C := rfl
theorem set3D : Statement .set3D := rfl
theorem set3E : Statement .set3E := rfl
theorem set3H : Statement .set3H := rfl
theorem set3L : Statement .set3L := rfl
theorem set3MemHL : Statement .set3MemHL := rfl
theorem set3A : Statement .set3A := rfl
theorem set4B : Statement .set4B := rfl
theorem set4C : Statement .set4C := rfl
theorem set4D : Statement .set4D := rfl
theorem set4E : Statement .set4E := rfl
theorem set4H : Statement .set4H := rfl
theorem set4L : Statement .set4L := rfl
theorem set4MemHL : Statement .set4MemHL := rfl
theorem set4A : Statement .set4A := rfl
theorem set5B : Statement .set5B := rfl
theorem set5C : Statement .set5C := rfl
theorem set5D : Statement .set5D := rfl
theorem set5E : Statement .set5E := rfl
theorem set5H : Statement .set5H := rfl
theorem set5L : Statement .set5L := rfl
theorem set5MemHL : Statement .set5MemHL := rfl
theorem set5A : Statement .set5A := rfl
theorem set6B : Statement .set6B := rfl
theorem set6C : Statement .set6C := rfl
theorem set6D : Statement .set6D := rfl
theorem set6E : Statement .set6E := rfl
theorem set6H : Statement .set6H := rfl
theorem set6L : Statement .set6L := rfl
theorem set6MemHL : Statement .set6MemHL := rfl
theorem set6A : Statement .set6A := rfl
theorem set7B : Statement .set7B := rfl
theorem set7C : Statement .set7C := rfl
theorem set7D : Statement .set7D := rfl
theorem set7E : Statement .set7E := rfl
theorem set7H : Statement .set7H := rfl
theorem set7L : Statement .set7L := rfl
theorem set7MemHL : Statement .set7MemHL := rfl
theorem set7A : Statement .set7A := rfl
theorem retNZ : Statement .retNZ := rfl
theorem rst00 : Statement .rst00 := rfl
theorem retZ : Statement .retZ := rfl
theorem ret : Statement .ret := rfl
theorem rst08 : Statement .rst08 := rfl
theorem retNC : Statement .retNC := rfl
theorem rst10 : Statement .rst10 := rfl
theorem retC : Statement .retC := rfl
theorem reti : Statement .reti := rfl
theorem rst18 : Statement .rst18 := rfl
theorem rst20 : Statement .rst20 := rfl
theorem jpHL : Statement .jpHL := rfl
theorem rst28 : Statement .rst28 := rfl
theorem rst30 : Statement .rst30 := rfl
theorem rst38 : Statement .rst38 := rfl
theorem nop : Statement .nop := rfl
theorem halt : Statement .halt := rfl
theorem illegalD3 : Statement .illegalD3 := rfl
theorem illegalDB : Statement .illegalDB := rfl
theorem illegalDD : Statement .illegalDD := rfl
theorem illegalE3 : Statement .illegalE3 := rfl
theorem illegalE4 : Statement .illegalE4 := rfl
theorem illegalEB : Statement .illegalEB := rfl
theorem illegalEC : Statement .illegalEC := rfl
theorem illegalED : Statement .illegalED := rfl
theorem di : Statement .di := rfl
theorem illegalF4 : Statement .illegalF4 := rfl
theorem ei : Statement .ei := rfl
theorem illegalFC : Statement .illegalFC := rfl
theorem illegalFD : Statement .illegalFD := rfl

end Sys2Proof.Laws.ByteCount
end

