-- ==== Sys2Proof/Tests/Slice0.lean ====
section
/-!
SUPPORT. Tests: the WellFormed smoke test, words written out from the encodings of 30_encoding.md, the vectors T11 to T23
of 95_test_vectors.md (derived there from the rules, not from any run), and for every obligation with hypotheses a
concrete state and operands that meet them.
-/

namespace Sys2Proof.Tests

set_option Elab.async false
open Sys2Proof Sys2Proof.Machine

/-! ### Small states -/

/-- The conventions of 95_test_vectors.md L2: PC = 0xC000 at a boundary, IME = 0, IE = 0; registers and F all zero. -/
def base : State :=
  { State.reset with regs := { a := 0, f := 0, b := 0, c := 0, d := 0, e := 0, h := 0, l := 0, sp := 0xD000, pc := 0xC000 } }

/-- `base` with registers of the test's choice. -/
def given (regs : Regs → Regs) : State := { base with regs := regs base.regs }

/-- Put bytes in memory from an address on. -/
def poke (a : Word) (bytes : List Byte) (s : State) : State := placeBytes s a bytes

/-- One step of the instruction in these bytes at PC gives these registers, this cost and these bytes of memory. -/
def vector (bytes : List Byte) (s : State) (regs : Regs → Regs) (cost : Nat) (mem : List (Word × Byte)) : Bool :=
  match step (poke s.regs.pc bytes s) with
  | .next t => decide (t.regs = regs s.regs) && decide (t.ctl.wait = cost) &&
      mem.all (fun c => decide (readByte t c.1 = c.2))
  | _ => false

/-- One step of the instruction in these bytes at PC gives a state that passes a test. -/
def stepTo (bytes : List Byte) (s : State) (ok : State → Bool) : Bool :=
  match step (poke s.regs.pc bytes s) with
  | .next t => ok t
  | _ => false

/-- An MBC1 cartridge of `banks` ROM banks whose first byte is the bank's number, with `ramLen` bytes of RAM. -/
def mbc1 (banks ramLen : Nat) : State :=
  { base with cart := { base.cart with
      family := .mbc1, romLen := banks * 0x4000, ramLen := ramLen
      rom := (List.range banks).map (fun b => (b * 0x4000, BitVec.ofNat 8 b)) |>.filter (fun c => c.2 != 0) } }

/-! ### T11: loads, stores and the stack -/

/-- 95_test_vectors.md T11, rows 1-22 (each row one step). -/
theorem test_loads_1 :
    vector [0x41] (given (fun r => { r with c := 0x5A })) (fun r => { r with b := 0x5A, pc := 0xC001 }) 4 [] = true ∧
    vector [0x36, 0x99] (given (fun r => { r with h := 0xC1, l := 0x23 })) (fun r => { r with pc := 0xC002 }) 12 [(0xC123, 0x99)] = true ∧
    vector [0xFA, 0x00, 0xC2] (poke 0xC200 [0x42] base) (fun r => { r with a := 0x42, pc := 0xC003 }) 16 [] = true ∧
    vector [0xEA, 0x34, 0xC2] (given (fun r => { r with a := 0x77 })) (fun r => { r with pc := 0xC003 }) 16 [(0xC234, 0x77)] = true := by
  decide +kernel

/-- 95_test_vectors.md T11, rows 1-22 (each row one step). -/
theorem test_loads_2 :
    vector [0xE0, 0x80] (given (fun r => { r with a := 0x11 })) (fun r => { r with pc := 0xC002 }) 12 [(0xFF80, 0x11)] = true ∧
    vector [0xF0, 0x44] (given (fun r => { r with a := 0x55 })) (fun r => { r with a := 0x00, pc := 0xC002 }) 12 [] = true ∧
    vector [0xE2] (given (fun r => { r with a := 0x22, c := 0x81 })) (fun r => { r with pc := 0xC001 }) 8 [(0xFF81, 0x22)] = true ∧
    vector [0x22] (given (fun r => { r with a := 0x33, h := 0xFF, l := 0xFF })) (fun r => { r with h := 0x00, l := 0x00, pc := 0xC001 }) 8 [(0xFFFF, 0x33)] = true := by
  decide +kernel

/-- 95_test_vectors.md T11, rows 1-22 (each row one step). -/
theorem test_loads_3 :
    vector [0x3A] (poke 0xC100 [0x44] (given (fun r => { r with h := 0xC1, l := 0x00 }))) (fun r => { r with a := 0x44, h := 0xC0, l := 0xFF, pc := 0xC001 }) 8 [] = true ∧
    vector [0x32] (given (fun r => { r with a := 0x55, h := 0xC0, l := 0x00 })) (fun r => { r with h := 0xBF, l := 0xFF, pc := 0xC001 }) 8 [(0xC000, 0x55)] = true ∧
    vector [0x2A] (poke 0xC1FF [0x66] (given (fun r => { r with h := 0xC1, l := 0xFF }))) (fun r => { r with a := 0x66, h := 0xC2, l := 0x00, pc := 0xC001 }) 8 [] = true ∧
    vector [0x01, 0x34, 0x12] base (fun r => { r with b := 0x12, c := 0x34, pc := 0xC003 }) 12 [] = true := by
  decide +kernel

/-- 95_test_vectors.md T11, rows 1-22 (each row one step). -/
theorem test_loads_4 :
    vector [0xF9] (given (fun r => { r with h := 0xD0, l := 0x00, sp := 0x1234 })) (fun r => { r with sp := 0xD000, pc := 0xC001 }) 8 [] = true ∧
    vector [0x08, 0x00, 0xC3] (given (fun r => { r with sp := 0xFFF8 })) (fun r => { r with pc := 0xC003 }) 20 [(0xC300, 0xF8), (0xC301, 0xFF)] = true ∧
    vector [0xC5] (given (fun r => { r with b := 0x12, c := 0x34, sp := 0xFFFE })) (fun r => { r with sp := 0xFFFC, pc := 0xC001 }) 16 [(0xFFFD, 0x12), (0xFFFC, 0x34)] = true ∧
    vector [0xF5] (given (fun r => { r with a := 0xAB, f := 0x50, sp := 0xD000 })) (fun r => { r with sp := 0xCFFE, pc := 0xC001 }) 16 [(0xCFFF, 0xAB), (0xCFFE, 0x50)] = true := by
  decide +kernel

/-- 95_test_vectors.md T11, rows 1-22 (each row one step). -/
theorem test_loads_5 :
    vector [0xD1] (poke 0xD000 [0xCD, 0xAB] (given (fun r => { r with sp := 0xD000 }))) (fun r => { r with d := 0xAB, e := 0xCD, sp := 0xD002, pc := 0xC001 }) 12 [] = true ∧
    vector [0xF1] (poke 0xD000 [0xFF, 0x12] (given (fun r => { r with sp := 0xD000 }))) (fun r => { r with a := 0x12, f := 0xF0, sp := 0xD002, pc := 0xC001 }) 12 [] = true ∧
    vector [0xE1] ( { (given (fun r => { r with sp := 0xFFFF, h := 0x77 })) with intr := { pending := 0, enabled := 0x1F, ieHi := 0 } } ) (fun r => { r with h := 0x00, l := 0x1F, sp := 0x0001, pc := 0xC001 }) 12 [] = true ∧
    vector [0x02] (given (fun r => { r with a := 0x99, b := 0xFF, c := 0x03 })) (fun r => { r with pc := 0xC001 }) 8 [(0xFF03, 0xFF)] = true := by
  decide +kernel

/-- 95_test_vectors.md T11, rows 1-22 (each row one step). -/
theorem test_loads_6 :
    vector [0x12] (given (fun r => { r with a := 0x01, d := 0x20, e := 0x00 })) (fun r => { r with pc := 0xC001 }) 8 [(0x2000, 0x00)] = true := by
  decide +kernel

/-- T11, row 22: a store to 0x2000 under MBC1 is a bank-select write. -/
theorem test_loads_bank_select :
    stepTo [0x12] { mbc1 4 0 with regs := { base.regs with a := 3, d := 0x20 } }
      (fun t => decide (t.cart.romLo5 = 3) && decide (t.regs.pc = 0xC001)) = true := by
  decide +kernel

/-- T11, row 8: the store to 0xFFFF sets IE and its upper bits. -/
theorem test_loads_ie :
    stepTo [0x22] (given (fun r => { r with a := 0x33, h := 0xFF, l := 0xFF }))
      (fun t => decide (t.intr.enabled = 0x13) && decide (t.intr.ieHi = 1)) = true := by
  decide +kernel

/-! ### T12: 8-bit arithmetic and logic -/

/-- 95_test_vectors.md T12 (rows in order, each one step). -/
theorem test_alu8_1 :
    vector [0x80] (given (fun r => { r with a := 0x3A, b := 0xC6, f := 0x00 })) (fun r => { r with a := 0x00, f := 0xB0, pc := 0xC001 }) 4 [] = true ∧
    vector [0x89] (given (fun r => { r with a := 0xE1, c := 0x0F, f := 0x10 })) (fun r => { r with a := 0xF1, f := 0x20, pc := 0xC001 }) 4 [] = true ∧
    vector [0xCE, 0x00] (given (fun r => { r with a := 0xFF, f := 0x10 })) (fun r => { r with a := 0x00, f := 0xB0, pc := 0xC002 }) 8 [] = true ∧
    vector [0x90] (given (fun r => { r with a := 0x3E, b := 0x3E })) (fun r => { r with a := 0x00, f := 0xC0, pc := 0xC001 }) 4 [] = true ∧
    vector [0xD6, 0x01] (given (fun r => { r with a := 0x00 })) (fun r => { r with a := 0xFF, f := 0x70, pc := 0xC002 }) 8 [] = true ∧
    vector [0x93] (given (fun r => { r with a := 0x3E, e := 0x0F })) (fun r => { r with a := 0x2F, f := 0x60, pc := 0xC001 }) 4 [] = true ∧
    vector [0x9C] (given (fun r => { r with a := 0x3B, h := 0x2A, f := 0x10 })) (fun r => { r with a := 0x10, f := 0x40, pc := 0xC001 }) 4 [] = true ∧
    vector [0xDE, 0x3A] (given (fun r => { r with a := 0x3B, f := 0x10 })) (fun r => { r with a := 0x00, f := 0xC0, pc := 0xC002 }) 8 [] = true := by
  decide +kernel

/-- 95_test_vectors.md T12 (rows in order, each one step). -/
theorem test_alu8_2 :
    vector [0x9F] (given (fun r => { r with a := 0x00, f := 0x10 })) (fun r => { r with a := 0xFF, f := 0x70, pc := 0xC001 }) 4 [] = true ∧
    vector [0xE6, 0x38] (given (fun r => { r with a := 0x5A })) (fun r => { r with a := 0x18, f := 0x20, pc := 0xC002 }) 8 [] = true ∧
    vector [0xA5] (given (fun r => { r with a := 0x5A, l := 0x00 })) (fun r => { r with a := 0x00, f := 0xA0, pc := 0xC001 }) 4 [] = true ∧
    vector [0xAF] (given (fun r => { r with a := 0x77, f := 0xF0 })) (fun r => { r with a := 0x00, f := 0x80, pc := 0xC001 }) 4 [] = true ∧
    vector [0xF6, 0x03] (given (fun r => { r with a := 0x5A })) (fun r => { r with a := 0x5B, f := 0x00, pc := 0xC002 }) 8 [] = true ∧
    vector [0xFE, 0x3C] (given (fun r => { r with a := 0x3C })) (fun r => { r with f := 0xC0, pc := 0xC002 }) 8 [] = true ∧
    vector [0xFE, 0x40] (given (fun r => { r with a := 0x3C })) (fun r => { r with f := 0x50, pc := 0xC002 }) 8 [] = true ∧
    vector [0xB8] (given (fun r => { r with a := 0x3C, b := 0x2F })) (fun r => { r with f := 0x60, pc := 0xC001 }) 4 [] = true := by
  decide +kernel

/-- 95_test_vectors.md T12 (rows in order, each one step). -/
theorem test_alu8_3 :
    vector [0x86] (poke 0xC100 [0xEE] (given (fun r => { r with a := 0x12, h := 0xC1, l := 0x00 }))) (fun r => { r with a := 0x00, f := 0xB0, pc := 0xC001 }) 8 [] = true ∧
    vector [0x3C] (given (fun r => { r with a := 0xFF, f := 0x10 })) (fun r => { r with a := 0x00, f := 0xB0, pc := 0xC001 }) 4 [] = true ∧
    vector [0x04] (given (fun r => { r with b := 0x0F, f := 0x00 })) (fun r => { r with b := 0x10, f := 0x20, pc := 0xC001 }) 4 [] = true ∧
    vector [0x0D] (given (fun r => { r with c := 0x01, f := 0x10 })) (fun r => { r with c := 0x00, f := 0xD0, pc := 0xC001 }) 4 [] = true ∧
    vector [0x0D] (given (fun r => { r with c := 0x00, f := 0x00 })) (fun r => { r with c := 0xFF, f := 0x60, pc := 0xC001 }) 4 [] = true ∧
    vector [0x34] (poke 0xC100 [0xFF] (given (fun r => { r with h := 0xC1, l := 0x00, f := 0x10 }))) (fun r => { r with f := 0xB0, pc := 0xC001 }) 12 [(0xC100, 0x00)] = true ∧
    vector [0x35] (poke 0xC100 [0x10] (given (fun r => { r with h := 0xC1, l := 0x00, f := 0x00 }))) (fun r => { r with f := 0x60, pc := 0xC001 }) 12 [(0xC100, 0x0F)] = true ∧
    vector [0x27] (given (fun r => { r with a := 0x7D, f := 0x00 })) (fun r => { r with a := 0x83, f := 0x00, pc := 0xC001 }) 4 [] = true := by
  decide +kernel

/-- 95_test_vectors.md T12 (rows in order, each one step). -/
theorem test_alu8_4 :
    vector [0x27] (given (fun r => { r with a := 0x2D, f := 0x60 })) (fun r => { r with a := 0x27, f := 0x40, pc := 0xC001 }) 4 [] = true ∧
    vector [0x27] (given (fun r => { r with a := 0x9A, f := 0x00 })) (fun r => { r with a := 0x00, f := 0x90, pc := 0xC001 }) 4 [] = true ∧
    vector [0x27] (given (fun r => { r with a := 0x00, f := 0x30 })) (fun r => { r with a := 0x66, f := 0x10, pc := 0xC001 }) 4 [] = true ∧
    vector [0x27] (given (fun r => { r with a := 0xF0, f := 0x40 })) (fun r => { r with f := 0x40, pc := 0xC001 }) 4 [] = true ∧
    vector [0x2F] (given (fun r => { r with a := 0x35, f := 0x80 })) (fun r => { r with a := 0xCA, f := 0xE0, pc := 0xC001 }) 4 [] = true ∧
    vector [0x37] (given (fun r => { r with f := 0xE0 })) (fun r => { r with f := 0x90, pc := 0xC001 }) 4 [] = true ∧
    vector [0x3F] (given (fun r => { r with f := 0x90 })) (fun r => { r with f := 0x80, pc := 0xC001 }) 4 [] = true ∧
    vector [0x3F] (given (fun r => { r with f := 0x80 })) (fun r => { r with f := 0x90, pc := 0xC001 }) 4 [] = true := by
  decide +kernel

/-! ### T13: 16-bit arithmetic -/

/-- 95_test_vectors.md T13 (rows in order, each one step). -/
theorem test_alu16_1 :
    vector [0x09] (given (fun r => { r with h := 0x0F, l := 0xFF, b := 0x00, c := 0x01, f := 0x80 })) (fun r => { r with h := 0x10, l := 0x00, f := 0xA0, pc := 0xC001 }) 8 [] = true ∧
    vector [0x19] (given (fun r => { r with h := 0xFF, l := 0xFF, d := 0x00, e := 0x01, f := 0x00 })) (fun r => { r with h := 0x00, l := 0x00, f := 0x30, pc := 0xC001 }) 8 [] = true ∧
    vector [0x29] (given (fun r => { r with h := 0x8A, l := 0x23, f := 0x00 })) (fun r => { r with h := 0x14, l := 0x46, f := 0x30, pc := 0xC001 }) 8 [] = true ∧
    vector [0x39] (given (fun r => { r with h := 0x00, l := 0x01, sp := 0xFFFE, f := 0x00 })) (fun r => { r with h := 0xFF, l := 0xFF, f := 0x00, pc := 0xC001 }) 8 [] = true ∧
    vector [0x33] (given (fun r => { r with sp := 0xFFFF, f := 0xF0 })) (fun r => { r with sp := 0x0000, pc := 0xC001 }) 8 [] = true ∧
    vector [0x0B] (given (fun r => { r with b := 0x00, c := 0x00, f := 0x00 })) (fun r => { r with b := 0xFF, c := 0xFF, pc := 0xC001 }) 8 [] = true := by
  decide +kernel

/-- 95_test_vectors.md T13 (rows in order, each one step). -/
theorem test_alu16_2 :
    vector [0x13] (given (fun r => { r with d := 0x00, e := 0xFF, f := 0xA0 })) (fun r => { r with d := 0x01, e := 0x00, pc := 0xC001 }) 8 [] = true ∧
    vector [0xE8, 0xFF] (given (fun r => { r with sp := 0xFFFE, f := 0xF0 })) (fun r => { r with sp := 0xFFFD, f := 0x30, pc := 0xC002 }) 16 [] = true ∧
    vector [0xE8, 0x01] (given (fun r => { r with sp := 0x00FF, f := 0x00 })) (fun r => { r with sp := 0x0100, f := 0x30, pc := 0xC002 }) 16 [] = true ∧
    vector [0xE8, 0x80] (given (fun r => { r with sp := 0x0000, f := 0x00 })) (fun r => { r with sp := 0xFF80, pc := 0xC002 }) 16 [] = true ∧
    vector [0xF8, 0x02] (given (fun r => { r with sp := 0xFFF8, f := 0x80 })) (fun r => { r with h := 0xFF, l := 0xFA, f := 0x00, pc := 0xC002 }) 12 [] = true ∧
    vector [0xF8, 0xFF] (given (fun r => { r with sp := 0x0000, f := 0x00 })) (fun r => { r with h := 0xFF, l := 0xFF, pc := 0xC002 }) 12 [] = true := by
  decide +kernel

/-! ### T14: rotates, shifts and bits -/

/-- 95_test_vectors.md T14 (rows in order, each one step). -/
theorem test_rotate_1 :
    vector [0x07] (given (fun r => { r with a := 0x85, f := 0x80 })) (fun r => { r with a := 0x0B, f := 0x10, pc := 0xC001 }) 4 [] = true ∧
    vector [0x07] (given (fun r => { r with a := 0x00, f := 0x00 })) (fun r => { r with a := 0x00, f := 0x00, pc := 0xC001 }) 4 [] = true ∧
    vector [0x0F] (given (fun r => { r with a := 0x01 })) (fun r => { r with a := 0x80, f := 0x10, pc := 0xC001 }) 4 [] = true ∧
    vector [0x17] (given (fun r => { r with a := 0x95, f := 0x10 })) (fun r => { r with a := 0x2B, f := 0x10, pc := 0xC001 }) 4 [] = true ∧
    vector [0x1F] (given (fun r => { r with a := 0x81, f := 0x00 })) (fun r => { r with a := 0x40, f := 0x10, pc := 0xC001 }) 4 [] = true ∧
    vector [0xCB, 0x00] (given (fun r => { r with b := 0x00, f := 0x10 })) (fun r => { r with b := 0x00, f := 0x80, pc := 0xC002 }) 8 [] = true ∧
    vector [0xCB, 0x00] (given (fun r => { r with b := 0x85 })) (fun r => { r with b := 0x0B, f := 0x10, pc := 0xC002 }) 8 [] = true ∧
    vector [0xCB, 0x09] (given (fun r => { r with c := 0x01 })) (fun r => { r with c := 0x80, f := 0x10, pc := 0xC002 }) 8 [] = true := by
  decide +kernel

/-- 95_test_vectors.md T14 (rows in order, each one step). -/
theorem test_rotate_2 :
    vector [0xCB, 0x12] (given (fun r => { r with d := 0x80, f := 0x00 })) (fun r => { r with d := 0x00, f := 0x90, pc := 0xC002 }) 8 [] = true ∧
    vector [0xCB, 0x1B] (given (fun r => { r with e := 0x01, f := 0x00 })) (fun r => { r with e := 0x00, f := 0x90, pc := 0xC002 }) 8 [] = true ∧
    vector [0xCB, 0x1E] (poke 0xC100 [0x00] (given (fun r => { r with h := 0xC1, l := 0x00, f := 0x10 }))) (fun r => { r with f := 0x00, pc := 0xC002 }) 16 [(0xC100, 0x80)] = true ∧
    vector [0xCB, 0x24] (given (fun r => { r with h := 0x80 })) (fun r => { r with h := 0x00, f := 0x90, pc := 0xC002 }) 8 [] = true ∧
    vector [0xCB, 0x2D] (given (fun r => { r with l := 0x81 })) (fun r => { r with l := 0xC0, f := 0x10, pc := 0xC002 }) 8 [] = true ∧
    vector [0xCB, 0x37] (given (fun r => { r with a := 0xF0, f := 0x10 })) (fun r => { r with a := 0x0F, f := 0x00, pc := 0xC002 }) 8 [] = true ∧
    vector [0xCB, 0x37] (given (fun r => { r with a := 0x00 })) (fun r => { r with a := 0x00, f := 0x80, pc := 0xC002 }) 8 [] = true ∧
    vector [0xCB, 0x3F] (given (fun r => { r with a := 0x01 })) (fun r => { r with a := 0x00, f := 0x90, pc := 0xC002 }) 8 [] = true := by
  decide +kernel

/-- 95_test_vectors.md T14 (rows in order, each one step). -/
theorem test_rotate_3 :
    vector [0xCB, 0x3E] (poke 0xC100 [0x01] (given (fun r => { r with h := 0xC1, l := 0x00 }))) (fun r => { r with f := 0x90, pc := 0xC002 }) 16 [(0xC100, 0x00)] = true ∧
    vector [0xCB, 0x7C] (given (fun r => { r with h := 0x7F, f := 0x10 })) (fun r => { r with f := 0xB0, pc := 0xC002 }) 8 [] = true ∧
    vector [0xCB, 0x47] (given (fun r => { r with a := 0x01, f := 0x00 })) (fun r => { r with f := 0x20, pc := 0xC002 }) 8 [] = true ∧
    vector [0xCB, 0x5E] (poke 0xC100 [0x08] (given (fun r => { r with h := 0xC1, l := 0x00 }))) (fun r => { r with f := 0x20, pc := 0xC002 }) 12 [(0xC100, 0x08)] = true ∧
    vector [0xCB, 0x86] (poke 0xC100 [0xFF] (given (fun r => { r with h := 0xC1, l := 0x00, f := 0x00 }))) (fun r => { r with f := 0x00, pc := 0xC002 }) 16 [(0xC100, 0xFE)] = true ∧
    vector [0xCB, 0xFF] (given (fun r => { r with a := 0x00, f := 0x00 })) (fun r => { r with a := 0x80, f := 0x00, pc := 0xC002 }) 8 [] = true := by
  decide +kernel

/-! ### T15: control transfer -/

/-- 95_test_vectors.md T15 (rows in order, each one step). -/
theorem test_control_1 :
    vector [0xC3, 0x00, 0x20] base (fun r => { r with pc := 0x2000 }) 16 [] = true ∧
    vector [0xC2, 0x00, 0x20] (given (fun r => { r with f := 0x00 })) (fun r => { r with pc := 0x2000 }) 16 [] = true ∧
    vector [0xC2, 0x00, 0x20] (given (fun r => { r with f := 0x80 })) (fun r => { r with pc := 0xC003 }) 12 [] = true ∧
    vector [0xE9] (given (fun r => { r with h := 0x12, l := 0x34 })) (fun r => { r with pc := 0x1234 }) 4 [] = true ∧
    vector [0x18, 0xFE] base (fun r => { r with pc := 0xC000 }) 12 [] = true ∧
    vector [0x18, 0x7F] base (fun r => { r with pc := 0xC081 }) 12 [] = true := by
  decide +kernel

/-- 95_test_vectors.md T15 (rows in order, each one step). -/
theorem test_control_2 :
    vector [0x18, 0x80] base (fun r => { r with pc := 0xBF82 }) 12 [] = true ∧
    vector [0x28, 0x05] (given (fun r => { r with f := 0x00 })) (fun r => { r with pc := 0xC002 }) 8 [] = true ∧
    vector [0x38, 0x05] (given (fun r => { r with f := 0x10 })) (fun r => { r with pc := 0xC007 }) 12 [] = true ∧
    vector [0xCD, 0x00, 0x40] (given (fun r => { r with sp := 0xFFFE })) (fun r => { r with sp := 0xFFFC, pc := 0x4000 }) 24 [(0xFFFD, 0xC0), (0xFFFC, 0x03)] = true ∧
    vector [0xD4, 0x00, 0x40] (given (fun r => { r with f := 0x10, sp := 0xFFFE })) (fun r => { r with pc := 0xC003 }) 12 [] = true ∧
    vector [0xCC, 0x00, 0x40] (given (fun r => { r with f := 0x80, sp := 0xD000 })) (fun r => { r with sp := 0xCFFE, pc := 0x4000 }) 24 [(0xCFFF, 0xC0), (0xCFFE, 0x03)] = true := by
  decide +kernel

/-- 95_test_vectors.md T15 (rows in order, each one step). -/
theorem test_control_3 :
    vector [0xC9] (poke 0xD000 [0x53, 0x01] (given (fun r => { r with sp := 0xD000 }))) (fun r => { r with sp := 0xD002, pc := 0x0153 }) 16 [] = true ∧
    vector [0xD8] (poke 0xD000 [0x53, 0x01] (given (fun r => { r with f := 0x10, sp := 0xD000 }))) (fun r => { r with sp := 0xD002, pc := 0x0153 }) 20 [] = true ∧
    vector [0xC0] (given (fun r => { r with f := 0x80, sp := 0xD000 })) (fun r => { r with pc := 0xC001 }) 8 [] = true ∧
    vector [0xFF] (given (fun r => { r with sp := 0xFFFE })) (fun r => { r with sp := 0xFFFC, pc := 0x0038 }) 16 [(0xFFFD, 0xC0), (0xFFFC, 0x01)] = true ∧
    vector [0xCF] (given (fun r => { r with sp := 0xD000 })) (fun r => { r with sp := 0xCFFE, pc := 0x0008 }) 16 [(0xCFFF, 0xC0), (0xCFFE, 0x01)] = true ∧
    vector [0x18, 0x7F] (given (fun r => { r with pc := 0xFFF0 })) (fun r => { r with pc := 0x0071 }) 12 [] = true := by
  decide +kernel

/-- T15, row 16: RETI sets IME at once. -/
theorem test_control_reti :
    stepTo [0xD9] (poke 0xD000 [0x00, 0x02] base)
      (fun t => decide (t.regs.pc = 0x0200) && decide (t.regs.sp = 0xD002) && t.ctl.ime && decide (t.ctl.wait = 16)) =
        true := by
  decide +kernel

/-! ### T16: system instructions -/

/-- T16, rows 2, 3, 4: HALT, DI and EI. -/
theorem test_system_control :
    stepTo [0x76] base (fun t => t.ctl.halted && decide (t.regs.pc = 0xC001) && decide (t.ctl.wait = 4)) = true ∧
    stepTo [0xF3] { base with ctl := { base.ctl with ime := true } } (fun t => !t.ctl.ime && !t.ctl.eiPending) = true ∧
    stepTo [0xFB] base (fun t => t.ctl.eiPending && !t.ctl.ime && decide (t.ctl.wait = 4)) = true := by
  decide +kernel

/-- T16, rows 5 to 7: the illegal bytes 0xD3 and 0xFD, and STOP under `STOP_MODE = fault`. -/
theorem test_system_raise :
    stepTo [0xD3] base (fun t => decide (t.ctl.fatal = some ⟨0xD3, 0xC000⟩) && decide (t.regs.pc = 0xC001) &&
      decide (t.timer = base.timer) && decide (t.ppu = base.ppu)) = true ∧
    stepTo [0xFD] base (fun t => decide (t.ctl.fatal = some ⟨0xFD, 0xC000⟩)) = true ∧
    stepTo [0x10, 0x00] base (fun t => decide (t.ctl.fatal = some ⟨0x10, 0xC000⟩) && decide (t.regs.pc = 0xC001)) = true :=
  by decide +kernel

/-- T16, rows 8 and 9: STOP under the two other values of `STOP_MODE`; the timer counts the divider to 1 in the same
dot. -/
theorem test_system_stop :
    stepTo [0x10, 0x00] { base with params := { base.params with stopMode := .nop2 } }
      (fun t => decide (t.regs.pc = 0xC002) && decide (t.ctl.wait = 4) && !t.ctl.stopped) = true ∧
    stepTo [0x10, 0x00] { base with params := { base.params with stopMode := .haltUntilJoypad }
                                    timer := { base.timer with div16 := 0x1234 } }
      (fun t => t.ctl.stopped && decide (t.timer.div16 = 1) && decide (t.regs.pc = 0xC002) &&
        !(press .a t).ctl.stopped && (press .a t).intr.pending.getLsbD 4) = true := by
  decide +kernel

/-! ### T17: interrupts -/

/-- `base` with IME = 1 and these values of IF and IE. -/
def pendingState (flags enables : BitVec 5) : State :=
  { base with ctl := { base.ctl with ime := true }, intr := { pending := flags, enabled := enables, ieHi := 0 } }

/-- T17, items 1 to 3: priority, enabling, and no service when nothing is enabled. -/
theorem test_interrupt_priority :
    stepTo [0x00] (pendingState 0x1F 0x1F) (fun t => decide (t.intr.pending = 0x1E) && !t.ctl.ime &&
      decide (readByte t 0xCFFF = 0xC0) && decide (readByte t 0xCFFE = 0) && decide (t.regs.sp = 0xCFFE) &&
      decide (t.regs.pc = 0x40) && decide (t.ctl.wait = 20)) = true ∧
    stepTo [0x00] (pendingState 0x14 0x10) (fun t => decide (t.regs.pc = 0x60) && decide (t.intr.pending = 0x04)) = true ∧
    stepTo [0x00] (pendingState 0x1F 0x00) (fun t => decide (t.regs.pc = 0xC001) && decide (t.intr.pending = 0x1F)) =
      true := by
  decide +kernel

/-- T17, item 4: the push overwrites IE; the vector was chosen before it. -/
theorem test_interrupt_push_into_ie :
    stepTo [] { pendingState 0x04 0x04 with regs := { base.regs with pc := 0xC123, sp := 0 } }
      (fun t => decide (t.intr.enabled = 1) && decide (t.intr.ieHi = 6) && decide (readByte t 0xFFFE = 0x23) &&
        decide (t.regs.sp = 0xFFFE) && decide (t.regs.pc = 0x50) && decide (t.intr.pending = 0)) = true := by
  decide +kernel

/-- T17, items 5, 6, 8: after EI the next instruction sets IME, unless it is DI; HALT halts and sets it. -/
theorem test_interrupt_ei_latency :
    stepTo [0x00] { base with ctl := { base.ctl with eiPending := true } } (fun t => t.ctl.ime && !t.ctl.eiPending) = true ∧
    stepTo [0xF3] { base with ctl := { base.ctl with eiPending := true } } (fun t => !t.ctl.ime && !t.ctl.eiPending) = true ∧
    stepTo [0x76] { base with ctl := { base.ctl with eiPending := true } } (fun t => t.ctl.ime && t.ctl.halted) = true := by
  decide +kernel

/-- T17, item 10: reads of IF and IE. -/
theorem test_interrupt_registers :
    readByte (pendingState 0x05 0) 0xFF0F = 0xE5 ∧ (writeByte base 0xFFFF 0xE5).intr.enabled = 0x05 ∧
    (writeByte base 0xFFFF 0xE5).intr.ieHi = 7 ∧ readByte (writeByte base 0xFFFF 0xE5) 0xFFFF = 0xE5 := by
  decide +kernel

/-! ### T18: the timer -/

/-- The timer with TAC = 0b101 (a threshold of 16) at this count. -/
def timerAt (tacc : Nat) (tima : Byte) : State :=
  { base with timer := { div16 := 0x00FF, tima := tima, tma := 0x10, tac := 0b101, tacc := tacc } }

/-- T18, items 2 and 8, and T5: TAC reads with ones above; a DIV write clears the whole divider. -/
theorem test_timer_registers :
    readByte base 0xFF07 = 0xF8 ∧ readByte (writeByte base 0xFF07 0xFD) 0xFF07 = 0xFD ∧
    (writeByte (timerAt 0 0) 0xFF04 0x5A).timer.div16 = 0 ∧
    (timerDot (writeByte (timerAt 15 0) 0xFF05 0x80)).timer.tima = 0x81 := by
  decide +kernel

/-- T18, items 1, 4 and 6: DIV's high byte; one increment when the accumulator is far past a new threshold; the reload
and the request in the same dot. -/
theorem test_timer_counts :
    readByte (timerDot (timerAt 0 0)) 0xFF04 = 1 ∧ (timerDot (timerAt 100 0)).timer.tima = 1 ∧
    (timerDot (timerAt 100 0)).timer.tacc = 0 ∧ (timerDot (timerAt 14 7)).timer.tima = 7 ∧
    (timerDot (timerAt 15 0xFF)).timer.tima = 0x10 ∧ (timerDot (timerAt 15 0xFF)).intr.pending = 0b00100 := by
  decide +kernel

/-! ### T19: the mode machine -/

/-- The PPU at a mode, dot and line, with these STAT enables and this LYC. -/
def ppuAt (mode : PpuMode) (dotCount line : Nat) (enables : BitVec 4) (lyc : Byte) : State :=
  { base with ppu := { base.ppu with mode := mode, modeDot := dotCount, ly := line, statEn := enables, lyc := lyc } }

/-- T19, items 2 to 5: coincidence at line 2, the mode-0 and mode-2 sources, and both bits at v-blank. -/
theorem test_ppu_requests :
    (ppuDot (ppuAt .hblank 203 1 0b1000 2)).intr.pending = 0b00010 ∧
    readByte (ppuDot (ppuAt .hblank 203 1 0b1000 2)) 0xFF41 = 0xC6 ∧
    (ppuDot (ppuAt .pixelTransfer 171 0 0b0001 9)).intr.pending = 0b00010 ∧
    (ppuDot (ppuAt .hblank 203 0 0b0100 9)).intr.pending = 0b00010 ∧
    (ppuDot (ppuAt .vblank 455 153 0b0100 9)).intr.pending = 0b00010 ∧
    (ppuDot (ppuAt .hblank 203 143 0b0010 9)).intr.pending = 0b00011 := by
  decide +kernel

/-- T19, items 2, 6, 7, 8: a STAT write, LCD off and on, and the ignored LY write. -/
theorem test_ppu_registers :
    readByte (writeByte (ppuAt .oamSearch 0 0 0 2) 0xFF41 0x40) 0xFF41 = 0xC6 ∧
    (ppuDot (writeByte (ppuAt .pixelTransfer 8 2 0 0) 0xFF40 0x11)).ppu.mode = .hblank ∧
    (ppuDot (writeByte (ppuAt .pixelTransfer 8 2 0 0) 0xFF40 0x11)).ppu.ly = 0 ∧
    (ppuDot (writeByte (ppuDot (writeByte (ppuAt .pixelTransfer 8 2 0 0) 0xFF40 0x11)) 0xFF40 0x91)).ppu.modeDot = 1 ∧
    readByte (writeByte (ppuAt .oamSearch 0 7 0 0) 0xFF44 0x99) 0xFF44 = 7 := by
  decide +kernel

/-! ### T20: the composer -/

/-- The VRAM of T20: tiles 0, 1 and 2, all map entries 0, palettes E4, E4 and 90. -/
def scene (lcdc : Byte) : State :=
  poke 0x8020 [0, 0xFF, 0, 0xFF, 0, 0xFF, 0, 0xFF, 0, 0xFF, 0, 0xFF, 0, 0xFF, 0, 0xFF]
    (poke 0x8010 [0xFF, 0xFF] (poke 0x8000 [0x80]
      { base with ppu := { base.ppu with lcdc := lcdc, bgp := 0xE4, obp0 := 0xE4, obp1 := 0x90 } }))

/-- Columns 0 to 11 of line 0 as the composer gives them (R489). -/
def columns (s : State) : List (BitVec 2) :=
  (List.range 12).map (fun x =>
    match spritePixel s (selectSprites s 0) x 0 (bgWinIndex s x 0) with
    | some shade => shade
    | none => palette s.ppu.bgp (bgWinIndex s x 0))

/-- T20, rows 1 to 5. -/
theorem test_composer_background :
    columns (scene 0x91) = [1, 0, 0, 0, 0, 0, 0, 0, 1, 0, 0, 0] ∧
    columns (writeByte (scene 0x91) 0xFF43 1) = [0, 0, 0, 0, 0, 0, 0, 1, 0, 0, 0, 0] ∧
    columns (scene 0x90) = [0, 0, 0, 0, 0, 0, 0, 0, 0, 0, 0, 0] ∧
    columns (scene 0x81) = [0, 0, 0, 0, 0, 0, 0, 0, 0, 0, 0, 0] ∧
    columns (poke 0xFE00 [16, 8, 1, 0] (scene 0x93)) = [3, 3, 3, 3, 3, 3, 3, 3, 1, 0, 0, 0] := by
  decide +kernel

/-- T20, rows 6 to 10: priority, OBP1, overlapping sprites, X flip. -/
theorem test_composer_sprites_1 :
    columns (poke 0xFE00 [16, 8, 1, 0x80] (scene 0x93)) = [1, 3, 3, 3, 3, 3, 3, 3, 1, 0, 0, 0] ∧
    columns (poke 0xFE00 [16, 10, 1, 0x10] (scene 0x93)) = [1, 0, 2, 2, 2, 2, 2, 2, 2, 2, 0, 0] ∧
    columns (poke 0xFE00 [16, 8, 1, 0x80, 16, 8, 1, 0x10] (scene 0x93)) = [1, 3, 3, 3, 3, 3, 3, 3, 1, 0, 0, 0] ∧
    columns (poke 0xFE00 [16, 8, 0, 0x00, 16, 8, 1, 0x10] (scene 0x93)) = [1, 2, 2, 2, 2, 2, 2, 2, 1, 0, 0, 0] ∧
    columns (poke 0xFE00 [16, 8, 0, 0x20] (scene 0x93)) = [1, 0, 0, 0, 0, 0, 0, 1, 1, 0, 0, 0] := by
  decide +kernel

/-- T20, rows 11, 12 and 15: Y flip, 8x16, and ten off-screen sprites that use up the slots. -/
theorem test_composer_sprites_2 :
    columns (poke 0xFE00 [9, 8, 1, 0x40] (scene 0x93)) = [3, 3, 3, 3, 3, 3, 3, 3, 1, 0, 0, 0] ∧
    columns (poke 0xFE00 [8, 8, 1, 0x00] (scene 0x97)) = [3, 3, 3, 3, 3, 3, 3, 3, 1, 0, 0, 0] ∧
    columns (poke 0xFE00 [16, 0, 1, 0, 16, 0, 1, 0, 16, 0, 1, 0, 16, 0, 1, 0, 16, 0, 1, 0, 16, 0, 1, 0, 16, 0, 1, 0,
      16, 0, 1, 0, 16, 0, 1, 0, 16, 0, 1, 0, 16, 8, 1, 0] (scene 0x93)) = [1, 0, 0, 0, 0, 0, 0, 0, 1, 0, 0, 0] := by
  decide +kernel

/-- T20, rows 13 and 14: the window. -/
theorem test_composer_window :
    columns (writeByte (poke 0x9C00 [2] (scene 0xF1)) 0xFF4B 11) = [1, 0, 0, 0, 2, 2, 2, 2, 2, 2, 2, 2] ∧
    columns (writeByte (writeByte (scene 0xB1) 0xFF4B 7) 0xFF4A 1) = [1, 0, 0, 0, 0, 0, 0, 0, 1, 0, 0, 0] := by
  decide +kernel

/-- T20, row 1, through the composer itself: the pixel buffer of line 0 after it is composed. -/
theorem test_composer_line :
    (List.range 9).map (fun x => pixelAt (composeLine 0 (scene 0x91)) x 0) = [1, 0, 0, 0, 0, 0, 0, 0, 1] := by
  decide +kernel

/-! ### T21, T22, T23: OAM DMA, the cartridge, the address space -/

/-- T21: DMA from WRAM and from the mirrored window; FF46 reads the source page; DMA from OAM changes nothing. -/
theorem test_dma :
    readByte (writeByte (poke 0xC000 [0x5A, 0x5B] (poke 0xC09F [0xC5] base)) 0xFF46 0xC0) 0xFE00 = 0x5A ∧
    readByte (writeByte (poke 0xC000 [0x5A, 0x5B] (poke 0xC09F [0xC5] base)) 0xFF46 0xE0) 0xFE9F = 0xC5 ∧
    readByte (writeByte base 0xFF46 0xC0) 0xFF46 = 0xC0 ∧
    (writeByte (poke 0xFE00 [1, 2, 3] base) 0xFF46 0xFE).mem = (poke 0xFE00 [1, 2, 3] base).mem := by
  decide +kernel

/-- T22, rows 1 to 6, and T4, case 2: MBC1's ROM bank. -/
theorem test_mbc1_rom :
    readByte (mbc1 4 0) 0x4000 = 1 ∧ readByte (writeByte (mbc1 4 0) 0x2000 2) 0x4000 = 2 ∧
    readByte (writeByte (mbc1 4 0) 0x2000 0) 0x4000 = 1 ∧ readByte (writeByte (mbc1 4 0) 0x2000 5) 0x4000 = 0xFF ∧
    readByte (writeByte (mbc1 4 0) 0x2000 0x23) 0x4000 = 3 ∧ readByte (writeByte (mbc1 2 0) 0x2000 3) 0x4000 = 0xFF ∧
    readByte (writeByte (writeByte (mbc1 64 0) 0x4000 1) 0x2000 0) 0x4000 = 33 := by
  decide +kernel

/-- Writes in order. -/
def writes (ws : List (Word × Byte)) (s : State) : State := ws.foldl (fun t w => writeByte t w.1 w.2) s

/-- T22, rows 7 to 14: MBC1's RAM. -/
theorem test_mbc1_ram :
    readByte (mbc1 4 32768) 0xA000 = 0xFF ∧
    readByte (writes [(0x0000, 0x0A), (0xA000, 0x12)] (mbc1 4 32768)) 0xA000 = 0x12 ∧
    readByte (writes [(0x0000, 0x0A), (0xA000, 0x12), (0x4000, 2)] (mbc1 4 32768)) 0xA000 = 0x12 ∧
    readByte (writes [(0x0000, 0x0A), (0xA000, 0x12), (0x4000, 2), (0x6000, 1), (0xA000, 0x34)] (mbc1 4 32768)) 0xA000 =
      0x34 ∧
    readByte (writes [(0x0000, 0x0A), (0xA000, 0x12), (0x4000, 2), (0x6000, 1), (0xA000, 0x34), (0x6000, 0)]
      (mbc1 4 32768)) 0xA000 = 0x12 ∧
    (writeByte (mbc1 4 32768) 0x1000 0x1B).cart.ramEnable = false ∧
    (writeByte (mbc1 4 32768) 0x1000 0xFA).cart.ramEnable = true ∧
    readByte (writes [(0x0000, 0x0A), (0x4000, 3), (0x6000, 1), (0xA000, 0x77)] (mbc1 4 8192)) 0xA000 = 0xFF := by
  decide +kernel

/-- T22, rows 15 and 16: ROM-only. -/
theorem test_rom_only :
    readByte (writeByte (poke 0x4000 [0x77] base) 0x2000 2) 0x4000 = 0x77 ∧ readByte base 0xA000 = 0xFF := by
  decide +kernel

/-- T23, items 1, 2, 3 and 5: the mirrored window, unmapped addresses, sound storage, the serial registers. -/
theorem test_memory_map :
    readByte (writeByte base 0xC005 0x42) 0xE005 = 0x42 ∧ readByte (writeByte base 0xFDFF 0x99) 0xDDFF = 0x99 ∧
    [0xFEA0, 0xFF03, 0xFF4C, 0xFF7F, 0xFF50].map (readByte base) = [0xFF, 0xFF, 0xFF, 0xFF, 0xFF] ∧
    writeByte base 0xFEA0 1 = base ∧ readByte (writeByte base 0xFF10 0xAB) 0xFF10 = 0xAB ∧
    readByte (writeByte base 0xFF02 0x81) 0xFF02 = 0x81 ∧ readByte base 0xFF02 = 0 := by
  decide +kernel

/-- T23, item 4: the button lines. -/
theorem test_joypad :
    readByte base 0xFF00 = 0xFF ∧ readByte (writeByte (press .a base) 0xFF00 0x10) 0xFF00 = 0xDE ∧
    readByte (writeByte (press .a base) 0xFF00 0x20) 0xFF00 = 0xEF := by
  decide +kernel

/-- `base` with the boot overlay active over a boot program that starts 0x31, 0xFE. -/
def booting : State :=
  { poke 0x0000 [0x77] base with io := { base.io with bootOverlay := true }
                                 params := { base.params with bootRom := [(0, 0x31), (1, 0xFE)] } }

/-- T23, item 6: the boot overlay and its one-way disable. -/
theorem test_boot_overlay :
    readByte booting 0x0000 = 0x31 ∧ readByte booting 0x0100 = 0 ∧
    readByte (writeByte booting 0xFF50 1) 0x0000 = 0x77 ∧
    readByte (writes [(0xFF50, 1), (0xFF50, 0)] booting) 0x0000 = 0x77 := by
  decide +kernel

/-- T23, items 7 and 8: byte order, and reads that straddle two owners. -/
theorem test_byte_order :
    vector [0x08, 0x00, 0xC3] (given (fun r => { r with sp := 0xABCD })) (fun r => { r with pc := 0xC003 }) 20
      [(0xC300, 0xCD), (0xC301, 0xAB)] = true ∧
    vector [0xD1] (poke 0x7FFF [0x11, 0x22] (given (fun r => { r with sp := 0x7FFF })))
      (fun r => { r with d := 0x22, e := 0x11, sp := 0x8001, pc := 0xC001 }) 12 [] = true := by
  decide +kernel

/-! ### Decoding and well-formedness -/

/-- Words written out from R161, R162 and R172-R178: one instruction of each family. -/
theorem test_decode_unprefixed :
    decode [0b01_000_001] = .instr .ldBC [] ∧ decode [0b01_110_111] = .instr .ldMemHLA [] ∧
    decode [0b11_101_010, 0x34, 0x12] = .instr (.ldMemA16A 0x1234) [] ∧
    decode [0b00_001_000, 0x34, 0x12] = .instr (.ldMemA16SP 0x1234) [] ∧
    decode [0b11_010_001] = .instr .popDE [] ∧ decode [0b10_001_001] = .instr .adcAC [] ∧
    decode [0b11_111_110, 0x3C] = .instr (.cpAd8 0x3C) [] ∧ decode [0b00_110_011] = .instr .incSP [] ∧
    decode [0b00_011_111] = .instr .rra [] ∧ decode [0b00_101_000, 0x05] = .instr (.jrZe8 5) [] ∧
    decode [0b11_010_100, 0x00, 0x40] = .instr (.callNCA16 0x4000) [] ∧ decode [0b11_011_001] = .instr .reti [] ∧
    decode [0b11_001_111] = .instr .rst08 [] ∧ decode [0b11_110_011] = .instr .di [] ∧
    decode [0x10, 0x99] = .instr (.stop 0x99) [] := by
  decide +kernel

/-- Words of the CB group from R162: the eight operations, the bit number and the operand. -/
theorem test_decode_cb :
    decode [0xCB, 0b00_000_000] = .instr .rlcB [] ∧ decode [0xCB, 0b00_001_001] = .instr .rrcC [] ∧
    decode [0xCB, 0b00_111_110] = .instr .srlMemHL [] ∧ decode [0xCB, 0b00_101_101] = .instr .sraL [] ∧
    decode [0xCB, 0b01_011_110] = .instr .bit3MemHL [] ∧ decode [0xCB, 0b10_000_110] = .instr .res0MemHL [] ∧
    decode [0xCB, 0b11_111_111] = .instr .set7A [] := by
  decide +kernel

/-- The WellFormed smoke test: the one ill-formed shape is the prefix row's, and it is refused. -/
theorem test_wellFormed_refuses_prefix : (Instr.prefixCB 0x00).wellFormed = false ∧ Instr.rlcB.wellFormed = true := by
  decide

/-- Truncated input is rejected by name. -/
theorem test_decode_rejects :
    decode [] = .reject .noOpcode ∧ decode [0x3E] = .reject .truncated ∧ decode [0x01, 0x02] = .reject .truncated ∧
    decode [0xCB] = .reject .truncated := by
  decide +kernel

/-- R177 and the table's numbering: the table's own number of a CB row decodes to that row's instruction. -/
theorem test_table_words :
    decodeTableWord 16 0xCB7C = some .bit7H ∧ decodeTableWord 8 0x76 = some .halt ∧
    decodeTableWord 16 0xFF3E = some (.ldAd8 0xFF) ∧ decodeTableWord 8 0xC3 = some (.jpA16 0) := by
  decide +kernel

/-- 10_state.md R70, R531: the reset state runs the placed instruction in its first step. -/
theorem test_reset_runs_placed :
    (match step (State.reset.withFetchWord 8 0x3C) with
     | .next t => decide (t.regs.a = 2) && decide (t.regs.pc = 0x0101)
     | _ => false) = true := by
  decide +kernel

/-! ### Witnesses: concrete states and operands that meet the hypotheses of each obligation -/

/-- The state after a step. -/
def stepped (s : State) : State :=
  match step s with
  | .next t => t
  | _ => s

/-- The state after an instruction. -/
def executed (i : Instr) (s : State) : State :=
  match exec i s with
  | .next t => t
  | _ => s

/-- The step answers a next state. -/
def goesOn (r : Result) : Bool :=
  match r with
  | .next _ => true
  | _ => false

theorem step_stepped {s : State} (h : goesOn (step s) = true) : step s = .next (stepped s) := by
  unfold stepped
  cases hs : step s with
  | next t => rfl
  | fault r => rw [hs] at h; cases h
  | refused r => rw [hs] at h; cases h

theorem exec_executed {i : Instr} {s : State} (h : goesOn (exec i s) = true) : exec i s = .next (executed i s) := by
  unfold executed
  cases hs : exec i s with
  | next t => rfl
  | fault r => rw [hs] at h; cases h
  | refused r => rw [hs] at h; cases h

theorem witness_DecodeOfEncodeIsTheInstruction :
    (Instr.ldBCd16 0x1234).wellFormed = true ∧ Instr.bit7H.wellFormed = true := by decide

theorem witness_EncodeOfDecodeIsTheBytes : decode [0x3E, 0x07, 0x00] = .instr (.ldAd8 7) [0x00] := by decide +kernel

theorem witness_StepRunsTheDecodedInstruction :
    fetchesNext base = true ∧ decode (fetchBytes base) = .instr .nop [0, 0] ∧
    exec .nop { base with ctl := { base.ctl with wait := 0, halted := false } } = .next (executed .nop base) :=
  ⟨by decide +kernel, by decide +kernel, exec_executed (s := base) (by decide +kernel)⟩

/-- With the halt-bug latch set, the second byte is the opcode byte again. -/
theorem witness_StepRunsTheDecodedInstruction_latch :
    let s := poke 0xC000 [0x3E, 0x14] { base with ctl := { base.ctl with haltBugLatch := true } }
    fetchesNext s = true ∧ decode (fetchBytes s) = .instr (.ldAd8 0x3E) [0x14] := by decide +kernel

theorem witness_EveryInstructionCompletes :
    (Instr.callZA16 0x4000).shape.raises base = false ∧ Instr.illegalD3.shape.raises base = true ∧
    (Instr.stop 0).shape.raises base = true := by decide

theorem witness_OnlyDestinationRegistersChange :
    exec (.addAd8 1) base = .next (executed (.addAd8 1) base) ∧ RegName.sp ∉ (Instr.addAd8 1).shape.regsWritten ∧
    RegName.gp .b ∉ Instr.popHL.shape.regsWritten :=
  ⟨exec_executed (by decide +kernel), by decide, by decide⟩

theorem witness_FlagsChangeAsTheTableSays :
    exec .scf base = .next (executed .scf base) ∧ base.regs.f &&& 0x0F = 0 :=
  ⟨exec_executed (by decide +kernel), by decide⟩

/-- A form that stores (PUSH: 0xCFFF and 0xCFFE), at the addresses beside its bytes, and a form that stores nothing. -/
theorem witness_OnlyStoredAddressesChange :
    exec .pushBC base = .next (executed .pushBC base) ∧
    Instr.pushBC.shape.stores base = [0xCFFF, 0xCFFE] ∧
    (storeReaches 0xCFFF 0xD000 = false ∧ storeReaches 0xCFFE 0xD000 = false) ∧
    (storeReaches 0xCFFF 0xCFFD = false ∧ storeReaches 0xCFFE 0xCFFD = false) ∧
    Instr.cpAB.shape.stores base = [] :=
  ⟨exec_executed (by decide +kernel), by decide +kernel, by decide +kernel, by decide +kernel, by decide +kernel⟩

theorem witness_InstructionsWithoutStoresTouchTheCpuOnly :
    exec .popAF base = .next (executed .popAF base) ∧ Instr.popAF.shape.stores base = [] :=
  ⟨exec_executed (by decide +kernel), rfl⟩

theorem witness_OnlySystemInstructionsChangeControl :
    exec .ret base = .next (executed .ret base) ∧ Instr.ret.shape.writesControl = false ∧
    Instr.ret.shape.raises base = false ∧ Instr.ret.shape ≠ .halt :=
  ⟨exec_executed (by decide +kernel), by decide, by decide, by decide⟩

/-- A store to DIV, and a store above the cartridge's control registers. -/
theorem witness_InstructionsLeaveHiddenUnitStateAlone :
    exec (.ldhMemA8A 0x04) base = .next (executed (.ldhMemA8A 0x04) base) ∧
    (Instr.ldhMemA8A 0x04).shape.stores base = [0xFF04] ∧ 0x8000 ≤ (0xFF04 : Word).toNat :=
  ⟨exec_executed (by decide +kernel), by decide +kernel, by decide⟩

theorem witness_RegisterLoads : r8Table 0 = .reg .b ∧ r8Table 7 = .reg .a ∧ r8Table 5 = .reg .l := by decide

theorem witness_PushAndPop : (0 : BitVec 2) ≠ 3 ∧ (2 : BitVec 2) ≠ 3 := by decide

/-- The three forms of the ALU operations 0 (ADD) and 1 (ADC): a register, the byte at HL, an immediate. -/
theorem witness_Additions :
    aluForm 0 base [0x80] 0 4 ∧ aluForm 0 base [0x86] 0 8 ∧ aluForm 0 base [0xC6, 0xFF] 0xFF 8 ∧
    aluForm 1 base [0x8F] 0 4 :=
  ⟨.inl ⟨0, .b, rfl, rfl, rfl, rfl⟩, .inr (.inl ⟨rfl, by decide +kernel, rfl⟩), .inr (.inr ⟨0xFF, rfl, rfl, rfl⟩),
    .inl ⟨7, .a, rfl, rfl, rfl, rfl⟩⟩

theorem witness_SubtractionsAndCompare :
    aluForm 2 base [0x96] 0 8 ∧ aluForm 3 base [0x98] 0 4 ∧ aluForm 7 base [0xFE, 0x01] 0x01 8 :=
  ⟨.inr (.inl ⟨rfl, by decide +kernel, rfl⟩), .inl ⟨0, .b, rfl, rfl, rfl, rfl⟩, .inr (.inr ⟨0x01, rfl, rfl, rfl⟩)⟩

/-- A = 0x0F with the operand 0x3C: AND 0x0C, XOR 0x33, OR 0x3F. -/
theorem witness_LogicOperations :
    let s := given (fun r => { r with a := 0x0F })
    (∀ j < 8, (0x0C : Byte).getLsbD j = (s.regs.a.getLsbD j && (0x3C : Byte).getLsbD j)) ∧
    (∀ j < 8, (0x33 : Byte).getLsbD j = Bool.xor (s.regs.a.getLsbD j) ((0x3C : Byte).getLsbD j)) ∧
    (∀ j < 8, (0x3F : Byte).getLsbD j = (s.regs.a.getLsbD j || (0x3C : Byte).getLsbD j)) ∧
    aluForm 4 s [0xE6, 0x3C] 0x3C 8 ∧ aluForm 5 s [0xEE, 0x3C] 0x3C 8 ∧ aluForm 6 s [0xF6, 0x3C] 0x3C 8 :=
  ⟨by decide, by decide, by decide, .inr (.inr ⟨_, rfl, rfl, rfl⟩), .inr (.inr ⟨_, rfl, rfl, rfl⟩),
    .inr (.inr ⟨_, rfl, rfl, rfl⟩)⟩

theorem witness_IncrementsAndDecrements : r8Table 0 = .reg .b ∧ r8Table 7 = .reg .a := by decide

/-- The two forms of a CB operand. -/
theorem witness_CbRotatesAndShifts :
    cbForm 0 base 0 (fun b => base.setReg .b b) 8 ∧ cbForm 7 base 0 (fun b => base.setReg .a b) 8 ∧
    cbForm 6 base 0 (fun b => writeByte base base.hl b) 16 :=
  ⟨.inl ⟨.b, rfl, rfl, fun _ => rfl, rfl⟩, .inl ⟨.a, rfl, rfl, fun _ => rfl, rfl⟩,
    .inr ⟨rfl, by decide +kernel, fun _ => rfl, rfl⟩⟩

theorem witness_BitTests : cbForm 6 base 0 (fun b => writeByte base base.hl b) 16 := witness_CbRotatesAndShifts.2.2

theorem witness_BitResetsAndSets : cbForm 0 base 0 (fun b => base.setReg .b b) 8 := witness_CbRotatesAndShifts.1

/-- `base` under `HALT_BUG = double_read`, with IME and IF & IE of the test's choice. -/
def haltBugState (ime : Bool) (flags : BitVec 5) : State :=
  { pendingState flags 1 with ctl := { base.ctl with ime := ime }, params := { base.params with haltBug := .doubleRead } }

theorem witness_SystemInstructions :
    base.params.haltBug = .none ∧
    ((haltBugState false 1).params.haltBug = .doubleRead ∧ (haltBugState false 1).ctl.ime = false ∧
      (haltBugState false 1).intr.pending &&& (haltBugState false 1).intr.enabled ≠ 0) ∧
    (haltBugState true 1).ctl.ime = true ∧
    (haltBugState false 2).intr.pending &&& (haltBugState false 2).intr.enabled = 0 := by decide

theorem witness_StopAndIllegalBytes :
    base.params.stopMode = .fault ∧ { base.params with stopMode := .nop2 }.stopMode = .nop2 ∧
    { base.params with stopMode := .haltUntilJoypad }.stopMode = .haltUntilJoypad ∧
    (0xD3 : Byte) ∈ ([0xD3, 0xDB, 0xDD, 0xE3, 0xE4, 0xEB, 0xEC, 0xED, 0xF4, 0xFC, 0xFD] : List Byte) := by decide

/-- `base` with control state of the test's choice. -/
def controlled (ctl : Ctl → Ctl) (s : State) : State := { s with ctl := ctl s.ctl }

/-- One state for each clause, at the boundary values 2, 1 and 0 of `wait`. -/
theorem witness_BoundariesWithoutService :
    let inside := controlled (fun c => { c with wait := 2 }) base
    let asleep := controlled (fun c => { c with wait := 1, stopped := true }) base
    let idle := controlled (fun c => { c with halted := true }) base
    let woken := controlled (fun c => { c with halted := true, ime := false }) (pendingState 0x10 0x10)
    inside.ctl.fatal = none ∧ inside.ctl.wait > 1 ∧
    asleep.ctl.fatal = none ∧ asleep.ctl.wait ≤ 1 ∧ asleep.ctl.stopped = true ∧
    idle.ctl.wait ≤ 1 ∧ idle.ctl.stopped = false ∧ idle.ctl.halted = true ∧
    ¬idle.intr.pending &&& idle.intr.enabled ≠ 0 ∧
    woken.ctl.wait ≤ 1 ∧ woken.ctl.stopped = false ∧ woken.ctl.halted = true ∧
    woken.intr.pending &&& woken.intr.enabled ≠ 0 ∧ woken.ctl.ime = false := by decide

/-- The first and the last source. -/
theorem witness_InterruptServiceTakesTheLowestSource :
    let s0 := pendingState 0x1F 0x1F
    let s4 := controlled (fun c => { c with wait := 1, halted := true }) (pendingState 0x10 0x1F)
    (s0.ctl.fatal = none ∧ s0.ctl.wait ≤ 1 ∧ s0.ctl.stopped = false ∧ s0.ctl.ime = true ∧ (0 : Nat) < 5 ∧
      s0.intr.pending.getLsbD 0 = true ∧ s0.intr.enabled.getLsbD 0 = true ∧
      ∀ j < 0, (s0.intr.pending.getLsbD j && s0.intr.enabled.getLsbD j) = false) ∧
    (s4.ctl.fatal = none ∧ s4.ctl.wait ≤ 1 ∧ s4.ctl.stopped = false ∧ s4.ctl.ime = true ∧ (4 : Nat) < 5 ∧
      s4.intr.pending.getLsbD 4 = true ∧ s4.intr.enabled.getLsbD 4 = true ∧
      ∀ j < 4, (s4.intr.pending.getLsbD j && s4.intr.enabled.getLsbD j) = false) := by decide

/-- EI with no deferred write; DI and NOP with one. -/
theorem witness_EiTakesEffectAfterTheNextInstruction :
    let ei := poke 0xC000 [0xFB] base
    let di := poke 0xC000 [0xF3] (controlled (fun c => { c with eiPending := true }) base)
    let no := controlled (fun c => { c with eiPending := true }) base
    (fetchesNext ei = true ∧ decode (fetchBytes ei) = .instr .ei [0, 0] ∧ Instr.ei.shape.raises ei = false ∧
      ei.ctl.eiPending = false) ∧
    (fetchesNext di = true ∧ decode (fetchBytes di) = .instr .di [0, 0] ∧ Instr.di.shape.raises di = false ∧
      di.ctl.eiPending = true) ∧
    (fetchesNext no = true ∧ decode (fetchBytes no) = .instr .nop [0, 0] ∧ Instr.nop.shape.raises no = false ∧
      no.ctl.eiPending = true ∧ Instr.nop ≠ .di) := by decide +kernel

theorem witness_FatalErrorHaltsTheCore :
    (controlled (fun c => { c with fatal := some ⟨0xD3, 0xC000⟩ }) base).ctl.fatal = some ⟨0xD3, 0xC000⟩ ∧
    (let s := poke 0xC000 [0xFD] base
     fetchesNext s = true ∧ raisingByte s.params (readByte s s.regs.pc) = true) ∧
    (let s := poke 0xC000 [0x10] base
     fetchesNext s = true ∧ raisingByte s.params (readByte s s.regs.pc) = true) ∧
    (let s := controlled (fun c => { c with haltBugLatch := true }) (poke 0xC000 [0xFD] base)
     fetchesNext s = true ∧ raisingByte s.params (readByte s s.regs.pc) = true) := by decide +kernel

theorem witness_StepsNeverChangeImageParametersOrButtons : step base = .next (stepped base) :=
  step_stepped (by decide +kernel)

/-- A service clears IF bit 0; LDH (0x0F),A sets IF bit 4. -/
theorem witness_PendingBitsChangeOnlyAsTheRulesSay :
    (step (pendingState 1 1) = .next (stepped (pendingState 1 1)) ∧
      (pendingState 1 1).intr.pending.getLsbD 0 = true ∧
      (stepped (pendingState 1 1)).intr.pending.getLsbD 0 = false) ∧
    (let s := poke 0xC000 [0xE0, 0x0F] (given (fun r => { r with a := 0x10 }))
     step s = .next (stepped s) ∧ s.intr.pending.getLsbD 4 = false ∧ (stepped s).intr.pending.getLsbD 4 = true ∧
       3 ≤ 4) :=
  ⟨⟨step_stepped (by decide +kernel), by decide +kernel, by decide +kernel⟩,
    step_stepped (by decide +kernel), by decide +kernel, by decide +kernel, by decide⟩

/-- Each clause, at the boundary values of TAC (3, 5), of the accumulator (14, 15) and of TIMA (0xFE, 0xFF). -/
theorem witness_TimerDot :
    { base.timer with tac := 3 }.tac.toNat < 4 ∧
    ((timerAt 14 0).timer.tac.toNat ≥ 4 ∧ (timerAt 14 0).timer.tacc + 1 < 16) ∧
    ((timerAt 15 0xFE).timer.tacc + 1 ≥ 16 ∧ (timerAt 15 0xFE).timer.tima ≠ 0xFF) ∧
    ((timerAt 15 0xFF).timer.tacc + 1 ≥ 16 ∧ (timerAt 15 0xFF).timer.tima = 0xFF) := by decide

theorem witness_DividerAndCounterPeriods :
    (timerAt 0 0xFF).timer.tac.toNat ≥ 4 ∧ (timerAt 0 0xFF).timer.tacc = 0 ∧ (15 : Nat) < 16 := by decide

/-- One state for each clause: the last dot inside a mode, and the dot that ends it. -/
theorem witness_ModeTransitions :
    base.ppu.lcdc.getLsbD 7 = true ∧ base.ppu.lcdOffSeen = false ∧
    ((PpuMode.oamSearch, 80) ∈ [(PpuMode.oamSearch, 80), (.pixelTransfer, 172), (.hblank, 204), (.vblank, 456)] ∧
      (ppuAt .oamSearch 78 0 0 0).ppu.modeDot + 1 ≠ 80) ∧
    (ppuAt .oamSearch 79 0 0 0).ppu.modeDot = 79 ∧ (ppuAt .pixelTransfer 171 0 0 0).ppu.modeDot = 171 ∧
    ((ppuAt .hblank 203 142 0 0).ppu.modeDot = 203 ∧ (ppuAt .hblank 203 142 0 0).ppu.ly + 1 ≠ 144) ∧
    (ppuAt .hblank 203 143 0 0).ppu.ly + 1 = 144 ∧
    ((ppuAt .vblank 455 152 0 0).ppu.modeDot = 455 ∧ (ppuAt .vblank 455 152 0 0).ppu.ly ≠ 153) ∧
    (ppuAt .vblank 455 153 0 0).ppu.ly = 153 := by decide

/-- Lines 0 and 143. -/
theorem witness_LineTimeline :
    (base.ppu.lcdc.getLsbD 7 = true ∧ base.ppu.lcdOffSeen = false ∧ base.ppu.mode = .oamSearch ∧
      base.ppu.modeDot = 0 ∧ base.ppu.composed = false ∧ base.ppu.ly = 0 ∧ (0 : Nat) < 144 ∧ (456 : Nat) ≤ 456) ∧
    (let s := ppuAt .oamSearch 0 143 0 0
     s.ppu.lcdc.getLsbD 7 = true ∧ s.ppu.lcdOffSeen = false ∧ s.ppu.mode = .oamSearch ∧ s.ppu.modeDot = 0 ∧
       s.ppu.composed = false ∧ s.ppu.ly = 143 ∧ (143 : Nat) < 144 ∧ (251 : Nat) ≤ 456) := by decide

theorem witness_FrameOf70224Dots :
    base.ppu.lcdc.getLsbD 7 = true ∧ base.ppu.lcdOffSeen = false ∧ base.ppu.mode = .oamSearch ∧
    base.ppu.modeDot = 0 ∧ base.ppu.composed = false ∧ base.ppu.ly = 0 := by decide

theorem witness_LcdOffAndOn :
    let off (lcdc : Byte) (seen : Bool) : Ppu := { base.ppu with lcdc := lcdc, lcdOffSeen := seen }
    ((off 0x11 false).lcdc.getLsbD 7 = false ∧ (off 0x11 false).lcdOffSeen = false) ∧
    ((off 0x11 true).lcdc.getLsbD 7 = false ∧ (off 0x11 true).lcdOffSeen = true) ∧
    ((off 0x91 true).lcdc.getLsbD 7 = true ∧ (off 0x91 true).lcdOffSeen = true) := by decide

theorem witness_ComposeLineWritesItsLine : (159 : Nat) < 160 ∧ (1 : Nat) ≠ 0 := by decide

/-- Background off; inside the window (WX = 7, WY = 0, column 0); above it. -/
theorem witness_BackgroundAndWindow :
    (scene 0x90).ppu.lcdc.getLsbD 0 ≠ true ∧
    (let s := writeByte (scene 0xB1) 0xFF4B 7
     s.ppu.lcdc.getLsbD 0 = true ∧ s.ppu.lcdc.getLsbD 5 = true ∧ s.ppu.wy.toNat ≤ 0 ∧ s.ppu.wx.toNat ≤ 0 + 7) ∧
    (let s := writeByte (scene 0xB1) 0xFF4B 8
     s.ppu.lcdc.getLsbD 0 = true ∧
       ¬(s.ppu.lcdc.getLsbD 5 = true ∧ s.ppu.wy.toNat ≤ 0 ∧ s.ppu.wx.toNat ≤ 0 + 7)) ∧
    (0x8000 ≤ (0x8000 : Word).toNat ∧ (0x9FFF : Word).toNat ≤ 0x9FFF) := by
  decide +kernel

/-- An opaque and a transparent column of a sprite, and columns on both sides of it. -/
theorem witness_SpriteSelectionAndPixel :
    let s := scene 0x93
    let p : Sprite := { y := 16, x := 8, tile := 1, attr := 0 }
    (∀ q ∈ ([] : List Sprite), spriteIndex s 0 0 q = 0) ∧ spriteIndex s 0 0 p ≠ 0 ∧
    (∀ q ∈ [{ p with tile := 0 }], spriteIndex s 1 0 q = 0) ∧
    (39 : Nat) < 40 ∧ (p.y ≤ 0 + 16 ∧ 0 + 16 < p.y + 8) ∧ (p.x ≤ 7 + 8 ∧ 7 + 8 < p.x + 8) ∧
    ¬(p.x ≤ 8 + 8 ∧ 8 + 8 < p.x + 8) := by
  decide +kernel

theorem witness_OamDmaCopies160Bytes :
    (159 : Nat) < 160 ∧ (0xFEA0 : Word) ≠ 0xFF46 ∧ ¬(0xFE00 ≤ (0xFEA0 : Word).toNat ∧ (0xFEA0 : Word).toNat ≤ 0xFE9F) :=
  by decide

/-- The first and last address of each range. -/
theorem witness_PlainStorageMirrorAndUnmapped :
    ([0x8000, 0x9FFF, 0xC000, 0xFDFF, 0xFE00, 0xFE9F, 0xFF10, 0xFF3F, 0xFF80, 0xFFFE] : List Word).all (fun a =>
      decide ((0x8000 ≤ a.toNat ∧ a.toNat ≤ 0x9FFF) ∨ (0xC000 ≤ a.toNat ∧ a.toNat ≤ 0xFDFF) ∨
        (0xFE00 ≤ a.toNat ∧ a.toNat ≤ 0xFE9F) ∨ (0xFF10 ≤ a.toNat ∧ a.toNat ≤ 0xFF3F) ∨
        (0xFF80 ≤ a.toNat ∧ a.toNat ≤ 0xFFFE))) = true ∧
    ([0xE000, 0xFDFF] : List Word).all (fun a => decide (0xE000 ≤ a.toNat ∧ a.toNat ≤ 0xFDFF)) = true ∧
    ([0xFEA0, 0xFEFF, 0xFF03, 0xFF08, 0xFF0E, 0xFF4C, 0xFF4F, 0xFF51, 0xFF7F] : List Word).all (fun a =>
      decide ((0xFEA0 ≤ a.toNat ∧ a.toNat ≤ 0xFEFF) ∨ a.toNat = 0xFF03 ∨ (0xFF08 ≤ a.toNat ∧ a.toNat ≤ 0xFF0E) ∨
        (0xFF4C ≤ a.toNat ∧ a.toNat ≤ 0xFF4F) ∨ (0xFF51 ≤ a.toNat ∧ a.toNat ≤ 0xFF7F))) = true := by
  decide +kernel

/-- The last line of the frame. -/
theorem witness_IoRegisters : { base.ppu with ly := 153 }.ly ≤ 153 := by decide

/-- Both families; the boundary addresses of the six windows; RAM enabled with the last byte in range, and disabled. -/
theorem witness_CartridgeWindows :
    (base.io.bootOverlay = false ∧ base.cart.family = .romOnly) ∧
    ((mbc1 4 8192).io.bootOverlay = false ∧ (mbc1 4 8192).cart.family = .mbc1) ∧
    ((0x1FFF : Word).toNat ≤ 0x1FFF ∧ 0x2000 ≤ (0x2000 : Word).toNat ∧ (0x3FFF : Word).toNat ≤ 0x3FFF ∧
      0x4000 ≤ (0x4000 : Word).toNat ∧ (0x5FFF : Word).toNat ≤ 0x5FFF ∧ 0x6000 ≤ (0x6000 : Word).toNat ∧
      (0x7FFF : Word).toNat ≤ 0x7FFF ∧ 0xA000 ≤ (0xA000 : Word).toNat ∧ (0xBFFF : Word).toNat ≤ 0xBFFF) ∧
    (let s := writeByte (mbc1 4 8192) 0x0000 0x0A
     s.cart.ramEnable = true ∧ 0 * 0x2000 + ((0xBFFF : Word).toNat - 0xA000) < s.cart.ramLen) ∧
    (mbc1 4 8192).cart.ramEnable = false ∧ (mbc1 4 2048).cart.ramLen ≤ 0 * 0x2000 + ((0xA800 : Word).toNat - 0xA000) := by
  decide +kernel

theorem witness_BootOverlay :
    booting.io.bootOverlay = true ∧ (0x00FF : Word).toNat ≤ 0xFF ∧ (0x0100 : Word).toNat > 0xFF ∧ (1 : Byte) ≠ 0 ∧
    step base = .next (stepped base) ∧ base.io.bootOverlay = false :=
  ⟨by decide, by decide, by decide, by decide, step_stepped (by decide +kernel), by decide⟩

/-- `base` inside an instruction meets the invariant. -/
theorem witness_StepKeepsTheInvariant :
    let s := controlled (fun c => { c with wait := 3 }) base
    Inv s ∧ step s = .next (stepped s) := by
  refine ⟨⟨?_, ?_, ?_⟩, step_stepped (by decide +kernel)⟩ <;> constructor <;> decide

theorem witness_EveryConstructedCoreMeetsTheInvariant : construct BuildArgs.default = .next State.reset := rfl

/-- Arguments with this image length, type byte and RAM-size code. -/
def cartArgs (len : Nat) (type code : Byte) : BuildArgs :=
  { BuildArgs.default with imageLen := len, image := [(0x147, type), (0x149, code)] }

/-- T22, row 17 and the boundary values of each clause. -/
theorem witness_ConstructionAndResetValues :
    let byte (b : BuildArgs) (k : Nat) : Byte := Store.read (Store.ofList (fun k => decide (k < b.imageLen)) b.image) k
    (cartArgs 0x14F 0 0).imageLen < 0x150 ∧
    (0x150 ≤ (cartArgs 0x150 5 0).imageLen ∧ 3 < (byte (cartArgs 0x150 5 0) 0x147).toNat) ∧
    (1 ≤ (byte (cartArgs 0x150 3 6) 0x147).toNat ∧ (byte (cartArgs 0x150 3 6) 0x147).toNat ≤ 3 ∧
      5 < (byte (cartArgs 0x150 3 6) 0x149).toNat) ∧
    (byte (cartArgs 0x150 0 6) 0x147).toNat = 0 ∧
    ((byte (cartArgs 0x150 3 5) 0x147).toNat ≤ 3 ∧ (byte (cartArgs 0x150 3 5) 0x149).toNat ≤ 5) ∧
    BuildArgs.default.bootMode = .postBoot ∧ { BuildArgs.default with bootMode := .bootRom }.bootMode = .bootRom := by
  decide +kernel

theorem witness_HostPressAndRelease : (writeByte base 0xFF00 0x10).io.joypSel = 0b01 := by decide +kernel

theorem witness_QuiescentHaltStays :
    quiescentHalt (controlled (fun c => { c with halted := true }) base) = true := by decide

end Sys2Proof.Tests
end

section
/-! What an instruction does outside the CPU (20_memory.md R112): the stores of its form, and nothing else. -/

namespace Sys2Proof.Machine

/-- The next state of an instruction is the old one with the form's stores performed and another CPU: `run_stores`,
read from the answer of `exec`. -/
theorem storesTo_of_exec {i : Instr} {s t : State} (h : exec i s = .next t) : storesTo (i.shape.stores s) s t := by
  obtain ⟨u, hu, hst⟩ := run_stores i.shape s
  rw [exec_eq_run, hu] at h
  cases h
  exact hst

theorem storesTo_nil_iff {s t : State} : storesTo [] s t ↔ cpuOnly s t := by
  constructor
  · rintro ⟨ws, hws, hcpu⟩
    rwa [List.map_eq_nil_iff.1 hws, storeAll_nil] at hcpu
  · exact storesTo_nil

end Sys2Proof.Machine

open Sys2Proof Sys2Proof.Machine

/-- Settles O11: with no store to perform, all that is left of `storesTo` is the change of the CPU. -/
theorem instructionsWithoutStoresTouchTheCpuOnly : Obligations.InstructionsWithoutStoresTouchTheCpuOnly := by
  intro i s t hexec hnone
  have hstores : storesTo [] s t := hnone ▸ storesTo_of_exec hexec
  exact cpuOnly_iff.1 (storesTo_nil_iff.1 hstores)

end

section
/-! What every step keeps (60_exceptions.md R400-R404): a property that changes of the CPU, writes, a cleared interrupt
request and the units' dot keep is kept by every instruction and every step. -/

namespace Sys2Proof.Machine

variable {P : State → Prop}

/-- Every instruction keeps what changes of the CPU and writes keep. -/
theorem exec_keeps (cpu : ∀ s t, cpuOnly s t → P s → P t) (write : ∀ s a v, P s → P (writeByte s a v))
    {i : Instr} {s t : State} (h : exec i s = .next t) (hs : P s) : P t := by
  obtain ⟨ws, -, hcpu⟩ := storesTo_of_exec h
  exact cpu _ _ hcpu (storeAll_induct write ws s hs)

theorem cpuOnly_setWait (s : State) (n : Nat) : cpuOnly s (s.setWait n) := ⟨rfl, rfl, rfl, rfl, rfl, rfl, rfl, rfl⟩

theorem cpuOnly_fetchState (s : State) : cpuOnly s (fetchState s) := ⟨rfl, rfl, rfl, rfl, rfl, rfl, rfl, rfl⟩

theorem cpuOnly_armEi (armed : Bool) (s : State) : cpuOnly s (armEi armed s) := by
  unfold armEi
  split <;> exact ⟨rfl, rfl, rfl, rfl, rfl, rfl, rfl, rfl⟩

/-- An interrupt service keeps what changes of the CPU, writes and a cleared request keep (R403). -/
theorem takeInterrupt_keeps (cpu : ∀ s t, cpuOnly s t → P s → P t) (write : ∀ s a v, P s → P (writeByte s a v))
    (cleared : ∀ k s, P s → P (clearPending k s)) {s : State} (hs : P s) : P (takeInterrupt s) := by
  have hpush := write _ (s.regs.sp - 2) (s.regs.pc.extractLsb' 0 8)
    (write _ (s.regs.sp - 1) (s.regs.pc.extractLsb' 8 8) (cleared (lowestEligible s.intr) s hs))
  rw [takeInterrupt_eq]
  refine cpu _ _ ?_ hpush
  exact ⟨rfl, rfl, rfl, rfl, rfl, rfl, rfl, rfl⟩

/-- Every step keeps what changes of the CPU, writes, a cleared request and the units' dot keep. -/
theorem step_keeps (cpu : ∀ s t, cpuOnly s t → P s → P t) (write : ∀ s a v, P s → P (writeByte s a v))
    (cleared : ∀ k s, P s → P (clearPending k s)) (units : ∀ s, P s → P (timerDot (ppuDot s)))
    {s t : State} (h : step s = .next t) (hs : P s) : P t := by
  obtain ⟨-, u, rfl, hu⟩ := step_inv h
  have hpu : P u := by
    rcases hu with ⟨-, rfl⟩ | ⟨-, rfl⟩ | ⟨-, -, -, -, rfl⟩ | ⟨-, i, -, v, -, hv, rfl⟩
    · exact cpu _ _ (cpuOnly_setWait s _) hs
    · exact cpu _ _ (cpuOnly_setWait s _) hs
    · exact takeInterrupt_keeps cpu write cleared (cpu _ _ (cpuOnly_setWait s _) hs)
    · exact cpu _ _ (cpuOnly_armEi _ v) (exec_keeps cpu write hv (cpu _ _ (cpuOnly_fetchState s) hs))
  unfold unitsDot
  split
  · exact hpu
  · exact units u hpu

/-- What no step changes (R58, R86, R416). -/
def sameFixed (s t : State) : Prop :=
  t.cart.rom = s.cart.rom ∧ t.cart.romLen = s.cart.romLen ∧ t.cart.family = s.cart.family ∧
    t.cart.ramLen = s.cart.ramLen ∧ t.params = s.params ∧ t.io.buttons = s.io.buttons

theorem sameFixed_of_eq {r s t : State} (hcart : t.cart = s.cart) (hparams : t.params = s.params) (hio : t.io = s.io)
    (h : sameFixed r s) : sameFixed r t := by
  unfold sameFixed
  rw [hcart, hparams, hio]
  exact h

theorem sameFixed_writeByte {r s : State} (a : Word) (v : Byte) (h : sameFixed r s) :
    sameFixed r (writeByte s a v) := by
  obtain ⟨erom, elen, efam, eram⟩ := writeByte_cartFixed s a v
  unfold sameFixed
  rw [erom, elen, efam, eram, writeByte_params, writeByte_buttons]
  exact h

/-- The units leave the cartridge, the parameters, the I/O registers and the CPU. -/
theorem units_rest (s : State) : (timerDot (ppuDot s)).cart = s.cart ∧ (timerDot (ppuDot s)).params = s.params ∧
    (timerDot (ppuDot s)).io = s.io ∧ (timerDot (ppuDot s)).regs = s.regs ∧ (timerDot (ppuDot s)).ctl = s.ctl := by
  rw [timerDot_eq, (ppuFrame_ppuDot s).rest]
  exact ⟨rfl, rfl, rfl, rfl, rfl⟩

theorem sameFixed_cpuOnly {r s t : State} (hcpu : cpuOnly s t) (h : sameFixed r s) : sameFixed r t := by
  obtain ⟨-, -, -, hio, hcart, -, -, hparams⟩ := hcpu
  exact sameFixed_of_eq hcart hparams hio h

theorem exec_sameFixed {i : Instr} {s t : State} (h : exec i s = .next t) : sameFixed s t :=
  exec_keeps (fun _ _ => sameFixed_cpuOnly) (fun _ => sameFixed_writeByte) h ⟨rfl, rfl, rfl, rfl, rfl, rfl⟩

theorem step_sameFixed {s t : State} (h : step s = .next t) : sameFixed s t := by
  refine step_keeps (P := sameFixed s) (fun _ _ => sameFixed_cpuOnly) (fun _ => sameFixed_writeByte) ?_ ?_ h
    ⟨rfl, rfl, rfl, rfl, rfl, rfl⟩
  · exact fun k u => sameFixed_of_eq rfl rfl rfl
  · intro u
    obtain ⟨hcart, hparams, hio, -⟩ := units_rest u
    exact sameFixed_of_eq hcart hparams hio

end Sys2Proof.Machine

open Sys2Proof Sys2Proof.Machine

/-- Settles O39: writes, changes of the CPU and the units' dot all keep these fields, so every step does. -/
theorem stepsNeverChangeImageParametersOrButtons : Obligations.StepsNeverChangeImageParametersOrButtons :=
  fun _ _ h => step_sameFixed h

end

section
/-! The CPU's control state after an instruction (10_state.md R37-R42, 45_system.md), said once for every form. -/

namespace Sys2Proof.Machine

/-- The control state once the fetch has spent the halt-bug latch (R351). -/
def Ctl.spent (c : Ctl) : Ctl := { c with haltBugLatch := false }

@[simp] theorem State.fetched_ctl (s : State) (n : Nat) : (s.fetched n).ctl = s.ctl.spent := rfl

@[simp] theorem dropTop_ctl (s : State) : (dropTop s).ctl = s.ctl := rfl

@[simp] theorem State.setAcc_ctl (s : State) (o : Out8) : (s.setAcc o).ctl = s.ctl := rfl

/-- The control state in which a raise leaves the core (R405). -/
def raisedCtl (op : Byte) (s : State) : Ctl := { s.ctl.spent with fatal := some { byte := op, addr := s.regs.pc } }

theorem raiseUnimplemented_ctl (op : Byte) (s : State) : (raiseUnimplemented op s).ctl = raisedCtl op s := rfl

/-- `c` is the control state in which a form may leave the core from `s`. -/
inductive CtlAfter (s : State) : Shape → Ctl → Prop
  | ordinary {sh : Shape} (control : sh.writesControl = false) (raises : sh.raises s = false) :
    CtlAfter s sh { s.ctl.spent with wait := sh.cost s.flags }
  | illegal (op : Byte) : CtlAfter s (.illegal op) (raisedCtl op s)
  | stopFault (mode : s.params.stopMode = .fault) : CtlAfter s .stop (raisedCtl 0x10 s)
  | stopNop (mode : s.params.stopMode = .nop2) : CtlAfter s .stop { s.ctl.spent with wait := 4 }
  | stopped (mode : s.params.stopMode = .haltUntilJoypad) :
    CtlAfter s .stop { s.ctl.spent with stopped := true, wait := 4 }
  | halted : CtlAfter s .halt { s.ctl.spent with halted := true, wait := 4 }
  | haltBug (mode : s.params.haltBug = .doubleRead) :
    CtlAfter s .halt { s.ctl with halted := false, haltBugLatch := true, wait := 4 }
  | disableInts : CtlAfter s .disableInts { s.ctl.spent with ime := false, eiPending := false, wait := 4 }
  | enableInts : CtlAfter s .enableInts { s.ctl.spent with eiPending := true, wait := 4 }
  | reti : CtlAfter s .reti { s.ctl.spent with ime := true, wait := 16 }

variable {s t u v : State} {sh : Shape}

theorem ctlAfter_finish (control : sh.writesControl = false) (raises : sh.raises s = false)
    (h : finish (sh.cost s.flags) u = .next t) (hu : u.ctl = s.ctl.spent) : CtlAfter s sh t.ctl := by
  cases h
  have e : (u.setWait (sh.cost s.flags)).ctl = { s.ctl.spent with wait := sh.cost s.flags } := by
    rw [← hu]
    rfl
  exact e ▸ .ordinary control raises

/-- The conditional forms end in one of two ways, at the cost of the way they took. -/
theorem ctlAfter_finish_if {cc : Cond} {taken notTaken : Nat} (control : sh.writesControl = false)
    (raises : sh.raises s = false) (hcost : sh.cost s.flags = costIf cc s.flags taken notTaken)
    (h : (if condHolds cc s.flags then finish taken u else finish notTaken v) = .next t)
    (hu : u.ctl = s.ctl.spent) (hv : v.ctl = s.ctl.spent) : CtlAfter s sh t.ctl := by
  unfold costIf at hcost
  split_ifs at h hcost
  · exact ctlAfter_finish control raises (hcost ▸ h) hu
  · exact ctlAfter_finish control raises (hcost ▸ h) hv

theorem ctlAfter_halt (h : halt s = .next t) : CtlAfter s .halt t.ctl := by
  cases h
  unfold haltState
  split
  · exact .halted
  · split_ifs
    · exact .haltBug ‹_›
    · exact .halted

theorem ctlAfter_stop (h : stop s = .next t) : CtlAfter s .stop t.ctl := by
  cases hm : s.params.stopMode
  · cases (stop_fault s hm).symm.trans h
    exact .stopFault hm
  · cases (stop_nop2 s hm).symm.trans h
    exact .stopNop hm
  · cases (stop_halt s hm).symm.trans h
    have e : ((writeByte ((s.fetched 2).setStopped true) 0xFF04 0).setWait 4).ctl =
        { s.ctl.spent with stopped := true, wait := 4 } := by
      unfold State.setWait
      rw [writeByte_ctl]
      rfl
    exact e ▸ .stopped hm

/-- Every form leaves the control state as `CtlAfter` says: nothing but the latch and `wait` in most. -/
theorem run_ctl (h : sh.run s = .next t) : CtlAfter s sh t.ctl := by
  cases sh
  case halt => exact ctlAfter_halt h
  case stop => exact ctlAfter_stop h
  case illegal op => cases h; exact .illegal op
  case disableInts => cases h; exact .disableInts
  case enableInts => cases h; exact .enableInts
  case reti => cases h; exact .reti
  case jumpAbsIf | jumpRelIf | retIf => exact ctlAfter_finish_if rfl rfl rfl h rfl rfl
  case callAbsIf => exact ctlAfter_finish_if rfl rfl rfl h (by simp [push16_ctl]) rfl
  case pushPair | callAbs | restart => exact ctlAfter_finish rfl rfl h (by simp [push16_ctl])
  case cbRot | cbRes | cbSet => exact ctlAfter_finish rfl rfl h (by simp [writeOperand_ctl])
  all_goals exact ctlAfter_finish rfl rfl h (by simp)

theorem exec_ctl {i : Instr} (h : exec i s = .next t) : CtlAfter s i.shape t.ctl := run_ctl (exec_eq_run i s ▸ h)

theorem CtlAfter.control_eq {c : Ctl} (h : CtlAfter s sh c) (hsh : sh.writesControl = false) :
    c.ime = s.ctl.ime ∧ c.eiPending = s.ctl.eiPending ∧ c.halted = s.ctl.halted ∧ c.stopped = s.ctl.stopped := by
  cases h
  case ordinary => exact ⟨rfl, rfl, rfl, rfl⟩
  case illegal => exact ⟨rfl, rfl, rfl, rfl⟩
  all_goals cases hsh

theorem CtlAfter.fatal_eq {c : Ctl} (h : CtlAfter s sh c) (hsh : sh.raises s = false) : c.fatal = s.ctl.fatal := by
  cases h
  case illegal => cases hsh
  case stopFault mode => simp [Shape.raises, mode] at hsh
  all_goals rfl

theorem CtlAfter.latch_eq {c : Ctl} (h : CtlAfter s sh c) (hsh : sh ≠ .halt) : c.haltBugLatch = false := by
  cases h
  case haltBug => exact absurd rfl hsh
  all_goals rfl

end Sys2Proof.Machine

open Sys2Proof Sys2Proof.Machine

/-- Settles O12: the three frames of `CtlAfter`. -/
theorem onlySystemInstructionsChangeControl : Obligations.OnlySystemInstructionsChangeControl :=
  fun _ _ _ h => ⟨(exec_ctl h).control_eq, (exec_ctl h).fatal_eq, (exec_ctl h).latch_eq⟩

end

section
/-! The flags after an instruction (10_state.md R34, R35): each form keeps F, or writes a flags byte that its row of R35
allows. -/

namespace Sys2Proof.Machine

variable {s t u v : State} {sh : Shape}

/-- The four entries of a row of R35 allow the change of the flags. -/
def FlagRow.allows (r : FlagRow) (f g : Flags) : Prop :=
  r.z.allows f.z g.z ∧ r.n.allows f.n g.n ∧ r.h.allows f.h g.h ∧ r.c.allows f.c g.c

/-- The row of the forms that write no flag. -/
def FlagRow.keepsAll : FlagRow := ⟨.kept, .kept, .kept, .kept⟩

/-- `t`'s flags are as a row of R35 says after `s`, and F's low nibble is still 0 (R34). -/
def flagsFollow (r : FlagRow) (s t : State) : Prop :=
  r.allows s.flags t.flags ∧ (s.regs.f &&& 0x0F = 0 → t.regs.f &&& 0x0F = 0)

theorem flagsFollow_of_f_eq (hf : t.regs.f = s.regs.f) : flagsFollow .keepsAll s t := by
  have hflags : t.flags = s.flags := congrArg Flags.ofByte hf
  exact ⟨hflags ▸ ⟨rfl, rfl, rfl, rfl⟩, fun h0 => hf ▸ h0⟩

/-- A form that leaves F. -/
theorem flagsFollow_kept {cost : Nat} (h : finish cost u = .next t) (hu : u.regs.f = s.regs.f) :
    flagsFollow .keepsAll s t := by
  cases h
  exact flagsFollow_of_f_eq hu

/-- A conditional form leaves F in both its ways. -/
theorem flagsFollow_kept_if {b : Bool} {taken notTaken : Nat}
    (h : (if b then finish taken u else finish notTaken v) = .next t) (hu : u.regs.f = s.regs.f)
    (hv : v.regs.f = s.regs.f) : flagsFollow .keepsAll s t := by
  split_ifs at h
  · exact flagsFollow_kept h hu
  · exact flagsFollow_kept h hv

/-- A form whose last write is all four flags. -/
theorem flagsFollow_setFlags {r : FlagRow} {f : Flags} {cost : Nat} (h : finish cost (u.setFlags f) = .next t)
    (hr : r.allows s.flags f) : flagsFollow r s t := by
  cases h
  have hflags : ((u.setFlags f).setWait cost).flags = f := State.flags_setFlags u f
  exact ⟨hflags.symm ▸ hr, fun _ => Flags.toByte_low f⟩

theorem aluOut_allows (op : AluOp) (a b : Byte) (k : Bool) (f : Flags) :
    op.flagRow.allows f (aluOut op a b k).flags := by
  cases op
  case add | adc => exact ⟨trivial, rfl, trivial, trivial⟩
  case sub | sbc | cp => exact ⟨trivial, rfl, trivial, trivial⟩
  case and | xor | or => exact ⟨trivial, rfl, rfl, rfl⟩

/-- The row of R35 for the CB rotates; SWAP alone clears C. -/
theorem rotOut_allows (op : RotOp) (o : Operand8) (b : Byte) (k : Bool) (f : Flags) :
    (Shape.cbRot op o).flagRow.allows f (rotOut op b k).flags := by
  cases op
  case swap => exact ⟨trivial, rfl, rfl, rfl⟩
  all_goals exact ⟨trivial, rfl, rfl, trivial⟩

/-- POP writes F only into AF, and masks it (R34, R168). -/
theorem flagsFollow_popPair (p : StackPair) (h : popPair p s = .next t) :
    flagsFollow (Shape.popPair p).flagRow s t := by
  cases p
  case af =>
    cases h
    exact ⟨⟨trivial, trivial, trivial, trivial⟩, fun _ => flagByteMask_low _⟩
  all_goals exact flagsFollow_kept h rfl

theorem haltState_regs (s : State) : (haltState s).regs = s.regs := by
  unfold haltState
  split
  · rfl
  · split_ifs <;> rfl

theorem flagsFollow_stop (h : stop s = .next t) : flagsFollow .keepsAll s t := by
  cases hm : s.params.stopMode
  · cases (stop_fault s hm).symm.trans h
    exact flagsFollow_of_f_eq rfl
  · exact flagsFollow_kept ((stop_nop2 s hm).symm.trans h) rfl
  · exact flagsFollow_kept ((stop_halt s hm).symm.trans h) (by simp)

/-- Every form changes the flags as its row of R35 says. -/
theorem run_flags (h : sh.run s = .next t) : flagsFollow sh.flagRow s t := by
  cases sh
  case aluReg | aluMem | aluImm => exact flagsFollow_setFlags h (aluOut_allows _ _ _ _ _)
  case incReg | incMem | decReg | decMem => exact flagsFollow_setFlags h ⟨trivial, rfl, trivial, rfl⟩
  case decimalAdjust => exact flagsFollow_setFlags h ⟨trivial, rfl, rfl, trivial⟩
  case complementAcc | setCarry => exact flagsFollow_setFlags h ⟨rfl, rfl, rfl, rfl⟩
  case complementCarry => exact flagsFollow_setFlags h ⟨rfl, rfl, rfl, trivial⟩
  case addHl | addSpDisp | loadHlSpDisp => exact flagsFollow_setFlags h ⟨rfl, rfl, trivial, trivial⟩
  case rotAcc => exact flagsFollow_setFlags h ⟨rfl, rfl, rfl, trivial⟩
  case cbRot => exact flagsFollow_setFlags h (rotOut_allows _ _ _ _ _)
  case cbBit => exact flagsFollow_setFlags h ⟨trivial, rfl, rfl, rfl⟩
  case popPair p => exact flagsFollow_popPair p h
  case halt => exact flagsFollow_kept h (by simp [haltState_regs])
  case stop => exact flagsFollow_stop h
  case illegal => cases h; exact flagsFollow_of_f_eq rfl
  case ret | reti => exact flagsFollow_kept h rfl
  case jumpAbsIf | jumpRelIf | retIf => exact flagsFollow_kept_if h rfl rfl
  case callAbsIf => exact flagsFollow_kept_if h (by simp [push16_regs]) rfl
  case pushPair | callAbs | restart => exact flagsFollow_kept h (by simp [push16_regs])
  case cbRes | cbSet => exact flagsFollow_kept h (by simp [writeOperand_f])
  all_goals exact flagsFollow_kept h (by simp)

theorem exec_flags {i : Instr} (h : exec i s = .next t) : flagsFollow i.shape.flagRow s t :=
  run_flags (exec_eq_run i s ▸ h)

end Sys2Proof.Machine

open Sys2Proof Sys2Proof.Machine

/-- Settles O9: form by form, F is kept or written as a flags byte that the form's row of R35 allows. -/
theorem flagsChangeAsTheTableSays : Obligations.FlagsChangeAsTheTableSays := by
  intro i s t h
  obtain ⟨⟨hz, hn, hh, hc⟩, hlow⟩ := exec_flags h
  exact ⟨hz, hn, hh, hc, hlow⟩

end

section
/-! The invariant of the core, kept by every step: the units' and memories' part by `step_keeps`, the CPU's part from
the control state and the flags an instruction leaves. -/

namespace Sys2Proof.Machine

variable {s t u : State} {sh : Shape}

/-! ### The timer, the PPU and the memories -/

/-- The units and memories depend on nothing of the CPU. -/
theorem unitInv_cpuOnly (h : cpuOnly s t) (hs : UnitInv s) : UnitInv t := by
  rw [cpuOnly_iff.1 h]
  exact { hs with }

theorem memInv_cpuOnly (h : cpuOnly s t) (hs : MemInv s) : MemInv t := by
  rw [cpuOnly_iff.1 h]
  exact { hs with }

theorem step_unitInv_memInv (h : step s = .next t) (hs : UnitInv s ∧ MemInv s) : UnitInv t ∧ MemInv t := by
  refine step_keeps (P := fun s => UnitInv s ∧ MemInv s) ?_ ?_ ?_ ?_ h hs
  · exact fun u v hcpu hu => ⟨unitInv_cpuOnly hcpu hu.1, memInv_cpuOnly hcpu hu.2⟩
  · exact fun u a v hu => ⟨writeByte_unitInv u a v hu.1, writeByte_memInv u a v hu.2⟩
  · exact fun k u hu => ⟨{ hu.1 with }, { hu.2 with }⟩
  · exact fun u hu => ⟨timerDot_unitInv (ppuDot_unitInv hu.1), timerDot_memInv (ppuDot_memInv hu.1 hu.2)⟩

/-! ### The CPU -/

/-- The part of `CpuInv` about the control state. -/
structure CtlInv (p : Params) (c : Ctl) : Prop where
  waitBound : c.wait ≤ 24
  stoppedMode : c.stopped = true → p.stopMode = .haltUntilJoypad
  latchMode : c.haltBugLatch = true → p.haltBug = .doubleRead
  fatalWait : c.fatal.isSome = true → c.wait = 0
  fatalByte : ∀ e, c.fatal = some e → raisingByte p e.byte = true

theorem cpuInv_iff : CpuInv s ↔ s.regs.f &&& 0x0F = 0 ∧ CtlInv s.params s.ctl :=
  ⟨fun h => ⟨h.flagsLow, { h with }⟩, fun ⟨hlow, hctl⟩ => { hctl with flagsLow := hlow }⟩

/-- While the core has not faulted, the bounds of `wait`, `stopped` and the latch are all there is to keep. -/
theorem ctlInv_running {p : Params} {c : Ctl} (hfatal : c.fatal = none) (hwait : c.wait ≤ 24)
    (hstopped : c.stopped = true → p.stopMode = .haltUntilJoypad)
    (hlatch : c.haltBugLatch = true → p.haltBug = .doubleRead) : CtlInv p c :=
  ⟨hwait, hstopped, hlatch, by simp [hfatal], by simp [hfatal]⟩

theorem ctlInv_raised {op : Byte} (hop : raisingByte s.params op = true) (hwait : s.ctl.wait = 0)
    (hs : CtlInv s.params s.ctl) : CtlInv s.params (raisedCtl op s) where
  waitBound := hs.waitBound
  stoppedMode := hs.stoppedMode
  latchMode := Bool.noConfusion
  fatalWait _ := hwait
  fatalByte _ he := Option.some.inj he ▸ hop

theorem costIf_le {cc : Cond} {f : Flags} {a b n : Nat} (ha : a ≤ n) (hb : b ≤ n) : costIf cc f a b ≤ n := by
  unfold costIf
  split <;> assumption

/-- No form takes more than 24 dots (R40, R550). -/
theorem Shape.cost_le (sh : Shape) (f : Flags) : sh.cost f ≤ 24 := by
  cases sh
  case jumpAbsIf | jumpRelIf | callAbsIf | retIf => exact costIf_le (by decide) (by decide)
  case cbRot _ o | cbBit _ o | cbRes _ o | cbSet _ o => cases o <;> exact Nat.le_of_ble_eq_true rfl
  all_goals exact Nat.le_of_ble_eq_true rfl

theorem prefixShape_raises (c : Byte) (s : State) : (prefixShape c).raises s = false := by
  unfold prefixShape
  dsimp only
  split_ifs <;> rfl

/-- Only the eleven illegal bytes have the raising form (R178). -/
theorem raisingByte_of_shape {i : Instr} {op : Byte} (h : i.shape = .illegal op) (p : Params) :
    raisingByte p op = true := by
  cases i
  case prefixCB c =>
    have hraises : (prefixShape c).raises State.reset = true := congrArg (Shape.raises · State.reset) h
    exact absurd ((prefixShape_raises c State.reset).symm.trans hraises) (by decide)
  case illegalD3 | illegalDB | illegalDD | illegalE3 | illegalE4 | illegalEB | illegalEC | illegalED | illegalF4 |
      illegalFC | illegalFD => cases h; rfl
  all_goals cases h

theorem raisingByte_stop {p : Params} (h : p.stopMode = .fault) : raisingByte p 0x10 = true := by
  simp [raisingByte, h]

/-- An instruction run at a boundary of a core that has not faulted keeps the invariant of the control state. -/
theorem CtlAfter.ctlInv {c : Ctl} (h : CtlAfter s sh c)
    (hillegal : ∀ op, sh = .illegal op → raisingByte s.params op = true) (hwait : s.ctl.wait = 0)
    (hfatal : s.ctl.fatal = none) (hs : CtlInv s.params s.ctl) : CtlInv s.params c := by
  cases h
  case ordinary => exact ctlInv_running hfatal (sh.cost_le _) hs.stoppedMode Bool.noConfusion
  case illegal op => exact ctlInv_raised (hillegal op rfl) hwait hs
  case stopFault mode => exact ctlInv_raised (raisingByte_stop mode) hwait hs
  case stopped mode => exact ctlInv_running hfatal (Nat.le_of_ble_eq_true rfl) (fun _ => mode) Bool.noConfusion
  case haltBug mode => exact ctlInv_running hfatal (Nat.le_of_ble_eq_true rfl) hs.stoppedMode (fun _ => mode)
  all_goals exact ctlInv_running hfatal (Nat.le_of_ble_eq_true rfl) hs.stoppedMode Bool.noConfusion

theorem exec_cpuInv {i : Instr} (h : exec i s = .next t) (hwait : s.ctl.wait = 0) (hfatal : s.ctl.fatal = none)
    (hs : CpuInv s) : CpuInv t := by
  obtain ⟨hlow, hctl⟩ := cpuInv_iff.1 hs
  obtain ⟨-, -, -, -, hparams, -⟩ := exec_sameFixed h
  rw [cpuInv_iff, hparams]
  exact ⟨(exec_flags h).2 hlow, (exec_ctl h).ctlInv (fun _ hsh => raisingByte_of_shape hsh _) hwait hfatal hctl⟩

/-- EI's deferred write touches neither F nor what the invariant says of the control state. -/
theorem armEi_cpuInv {armed : Bool} (h : CpuInv s) : CpuInv (armEi armed s) := by
  unfold armEi
  split
  · exact { h with }
  · exact h

theorem unitsDot_cpuInv (h : CpuInv s) : CpuInv (unitsDot s) := by
  unfold unitsDot
  split
  · exact h
  · obtain ⟨-, hparams, -, hregs, hctl⟩ := units_rest s
    rw [cpuInv_iff, hparams, hregs, hctl]
    exact cpuInv_iff.1 h

theorem setWait_cpuInv {n : Nat} (hn : n ≤ 24) (hfatal : s.ctl.fatal = none) (h : CpuInv s) : CpuInv (s.setWait n) := by
  obtain ⟨hlow, hctl⟩ := cpuInv_iff.1 h
  exact cpuInv_iff.2 ⟨hlow, ctlInv_running hfatal hn hctl.stoppedMode hctl.latchMode⟩

theorem takeInterrupt_cpuInv (hfatal : s.ctl.fatal = none) (h : CpuInv s) : CpuInv (takeInterrupt s) := by
  obtain ⟨hlow, hctl⟩ := cpuInv_iff.1 h
  rw [cpuInv_iff, takeInterrupt_eq]
  simp only [afterPush, writeByte_params]
  exact ⟨hlow, ctlInv_running hfatal (Nat.le_of_ble_eq_true rfl) hctl.stoppedMode hctl.latchMode⟩

theorem fetchState_cpuInv (hfatal : s.ctl.fatal = none) (h : CpuInv s) : CpuInv (fetchState s) := by
  obtain ⟨hlow, hctl⟩ := cpuInv_iff.1 h
  exact cpuInv_iff.2 ⟨hlow, ctlInv_running hfatal (Nat.zero_le 24) hctl.stoppedMode hctl.latchMode⟩

/-- Counting down, idling, a service and an instruction each keep the invariant of the CPU. -/
theorem step_cpuInv (h : step s = .next t) (hs : CpuInv s) : CpuInv t := by
  obtain ⟨hfatal, u, rfl, hu⟩ := step_inv h
  refine unitsDot_cpuInv ?_
  rcases hu with ⟨-, rfl⟩ | ⟨-, rfl⟩ | ⟨-, -, -, -, rfl⟩ | ⟨-, i, -, v, -, hv, rfl⟩
  · exact setWait_cpuInv (Nat.le_trans (Nat.sub_le _ 1) hs.waitBound) hfatal hs
  · exact setWait_cpuInv (Nat.zero_le 24) hfatal hs
  · exact takeInterrupt_cpuInv hfatal (setWait_cpuInv (Nat.zero_le 24) hfatal hs)
  · exact armEi_cpuInv (exec_cpuInv hv rfl hfatal (fetchState_cpuInv hfatal hs))

end Sys2Proof.Machine

open Sys2Proof Sys2Proof.Machine

/-- Settles O55: each unit's part of the invariant is kept by every step. -/
theorem stepKeepsTheInvariant : Obligations.StepKeepsTheInvariant := by
  intro s t hs h
  obtain ⟨hunits, hmems⟩ := step_unitInv_memInv h ⟨hs.units, hs.mems⟩
  exact ⟨step_cpuInv h hs.cpu, hunits, hmems⟩

end

section
/-! The state without an address of its own (10_state.md R60): what an instruction's stores leave of the units. -/

namespace Sys2Proof.Machine

/-- The pixels, the accumulator, the mode machine and the coincidence bit are the same. -/
def sameHidden (s t : State) : Prop :=
  t.pixels = s.pixels ∧ t.timer.tacc = s.timer.tacc ∧ t.ppu.mode = s.ppu.mode ∧ t.ppu.modeDot = s.ppu.modeDot ∧
    t.ppu.ly = s.ppu.ly ∧ t.ppu.composed = s.ppu.composed ∧ t.ppu.lcdOffSeen = s.ppu.lcdOffSeen ∧
    t.ppu.statLyc = s.ppu.statLyc

theorem sameHidden_cpuOnly {r s t : State} (hcpu : cpuOnly s t) (h : sameHidden r s) : sameHidden r t := by
  obtain ⟨-, htimer, hppu, -, -, -, hpixels, -⟩ := hcpu
  unfold sameHidden
  rw [htimer, hppu, hpixels]
  exact h

theorem sameHidden_writeByte {r s : State} (a : Word) (v : Byte) (h : sameHidden r s) :
    sameHidden r (writeByte s a v) := by
  obtain ⟨emode, edot, ely, ecomposed, eoff, elyc⟩ := writeByte_ppuFixed s a v
  unfold sameHidden
  rw [writeByte_pixels, writeByte_tacc, emode, edot, ely, ecomposed, eoff, elyc]
  exact h

theorem exec_sameHidden {i : Instr} {s t : State} (h : exec i s = .next t) : sameHidden s t :=
  exec_keeps (fun _ _ => sameHidden_cpuOnly) (fun _ => sameHidden_writeByte) h ⟨rfl, rfl, rfl, rfl, rfl, rfl, rfl, rfl⟩

/-! ### The divider -/

/-- Only a write to DIV changes the divider, to 0 (R445). -/
theorem writeByte_div16 (s : State) (a : Word) (v : Byte) :
    (writeByte s a v).timer.div16 = s.timer.div16 ∨ a = 0xFF04 ∧ (writeByte s a v).timer.div16 = 0 := by
  unfold writeByte
  cases ownerOf false a
  case io =>
    unfold ioWrite
    cases hr : ioReg a
    case div => exact Or.inr ⟨ioReg_addr a _ (by rw [hr]; rfl), rfl⟩
    case dma => left; dsimp only; rw [oamDma_eq]
    case boot => left; dsimp only; split_ifs <;> rfl
    all_goals exact Or.inl rfl
  all_goals exact Or.inl rfl

theorem storeAll_div16 (ws : List (Word × Byte)) (s : State) :
    (storeAll ws s).timer.div16 = s.timer.div16 ∨ 0xFF04 ∈ ws.map Prod.fst ∧ (storeAll ws s).timer.div16 = 0 := by
  induction ws generalizing s with
  | nil => exact Or.inl rfl
  | cons w ws ih =>
    rw [storeAll_cons, List.map_cons]
    rcases ih (writeByte s w.1 w.2) with hkept | ⟨hmem, hzero⟩
    · rw [hkept]
      exact (writeByte_div16 s w.1 w.2).imp id (fun ⟨hw, hzero⟩ => ⟨hw ▸ List.mem_cons_self, hzero⟩)
    · exact Or.inr ⟨List.mem_cons_of_mem _ hmem, hzero⟩

/-! ### The bank registers -/

/-- The four bank-switch registers are the same. -/
def sameBanks (s t : State) : Prop :=
  t.cart.romLo5 = s.cart.romLo5 ∧ t.cart.bankHi2 = s.cart.bankHi2 ∧ t.cart.bankMode = s.cart.bankMode ∧
    t.cart.ramEnable = s.cart.ramEnable

theorem sameBanks_of_eq {s t : State} (h : t.cart = s.cart) : sameBanks s t := by
  unfold sameBanks
  rw [h]
  exact ⟨rfl, rfl, rfl, rfl⟩

theorem sameBanks_trans {s t u : State} (h : sameBanks s t) (h' : sameBanks t u) : sameBanks s u := by
  obtain ⟨h1, h2, h3, h4⟩ := h
  obtain ⟨g1, g2, g3, g4⟩ := h'
  exact ⟨g1.trans h1, g2.trans h2, g3.trans h3, g4.trans h4⟩

/-- A write outside the ROM windows leaves the bank registers (R136-R139). -/
theorem writeByte_sameBanks (s : State) {a : Word} (v : Byte) (ha : 0x8000 ≤ a.toNat) :
    sameBanks s (writeByte s a v) := by
  unfold writeByte
  cases ho : ownerOf false a
  case cartRom => exact absurd ((ownerOf_false_range a).1 ho) (by omega)
  case cartRam =>
    dsimp only
    unfold cartWriteRam
    split_ifs <;> exact ⟨rfl, rfl, rfl, rfl⟩
  case io =>
    unfold ioWrite
    cases ioReg a
    case dma => exact sameBanks_of_eq (by dsimp only; rw [oamDma_eq])
    case boot => dsimp only; split_ifs <;> exact sameBanks_of_eq rfl
    all_goals exact sameBanks_of_eq rfl
  all_goals exact sameBanks_of_eq rfl

theorem storeAll_sameBanks (ws : List (Word × Byte)) (s : State) (h : ∀ a ∈ ws.map Prod.fst, 0x8000 ≤ a.toNat) :
    sameBanks s (storeAll ws s) := by
  induction ws generalizing s with
  | nil => exact sameBanks_of_eq rfl
  | cons w ws ih =>
    rw [List.map_cons, List.forall_mem_cons] at h
    exact sameBanks_trans (writeByte_sameBanks s w.2 h.1) (ih _ h.2)

end Sys2Proof.Machine

open Sys2Proof Sys2Proof.Machine

/-- Settles O13: of the stores of an instruction, only one to DIV moves the divider and only one below 0x8000 a bank
register; none moves the rest. -/
theorem instructionsLeaveHiddenUnitStateAlone : Obligations.InstructionsLeaveHiddenUnitStateAlone := by
  intro i s t h
  obtain ⟨hpixels, htacc, hmode, hdot, hly, hcomposed, hoff, hlyc⟩ := exec_sameHidden h
  obtain ⟨ws, haddrs, -, htimer, -, -, hcart, -⟩ := storesTo_of_exec h
  refine ⟨hpixels, htacc, hmode, hdot, hly, hcomposed, hoff, hlyc, ?_, fun hhigh => ?_⟩
  · rw [htimer, ← haddrs]
    exact storeAll_div16 ws s
  · exact sameBanks_trans (storeAll_sameBanks ws s (haddrs ▸ hhigh)) (sameBanks_of_eq hcart)

end

section
/-! Construction (70_reset_and_hazards.md R530-R533, 21_cartridge.md R131-R134, R148): what each image gives, and the
invariant at the reset state. -/

namespace Sys2Proof.Machine

/-! ### The header's tables in numbers -/

/-- R132: type byte 0 is a ROM-only cartridge. -/
theorem familyOfType_romOnly {t : Byte} (h : t.toNat = 0) : familyOfType t = some .romOnly :=
  if_pos (BitVec.eq_of_toNat_eq h)

/-- R132: type bytes 1 to 3 are MBC1. -/
theorem familyOfType_mbc1 {t : Byte} (h1 : 1 ≤ t.toNat) (h3 : t.toNat ≤ 3) : familyOfType t = some .mbc1 := by
  have ht : t = 1 ∨ t = 2 ∨ t = 3 := by bv_omega
  rcases ht with rfl | rfl | rfl <;> rfl

/-- R132: every other type byte is refused. -/
theorem familyOfType_none {t : Byte} (h : 3 < t.toNat) : familyOfType t = none := by
  have hne (k : Byte) (hk : k.toNat ≤ 3) : t ≠ k := by
    rintro rfl
    omega
  unfold familyOfType
  rw [if_neg (hne 0 (by decide)), if_neg (hne 1 (by decide)), if_neg (hne 2 (by decide)), if_neg (hne 3 (by decide))]

/-- R132 in one number: the family of an admitted type byte. -/
theorem familyOfType_some {t : Byte} (h : t.toNat ≤ 3) :
    familyOfType t = some (if t.toNat = 0 then .romOnly else .mbc1) := by
  split_ifs with h0
  · exact familyOfType_romOnly h0
  · exact familyOfType_mbc1 (Nat.pos_of_ne_zero h0) h

/-- R134: the lengths of cartridge RAM by code. -/
def ramLenTable (code : Nat) : Nat :=
  if code = 0 then 0 else if code = 1 then 2048 else if code = 2 then 8192 else if code = 3 then 32768
  else if code = 4 then 131072 else 65536

/-- R134: the admitted codes are 0 to 5. -/
theorem ramLenOfCode_some {c : Byte} (h : c.toNat ≤ 5) : ramLenOfCode c = some (ramLenTable c.toNat) := by
  have hc : c = 0 ∨ c = 1 ∨ c = 2 ∨ c = 3 ∨ c = 4 ∨ c = 5 := by bv_omega
  rcases hc with rfl | rfl | rfl | rfl | rfl | rfl <;> rfl

/-- R134: every code above 5 is refused. -/
theorem ramLenOfCode_none {c : Byte} (h : 5 < c.toNat) : ramLenOfCode c = none := by
  have hne (k : Byte) (hk : k.toNat ≤ 5) : c ≠ k := by
    rintro rfl
    omega
  unfold ramLenOfCode
  rw [if_neg (hne 0 (by decide)), if_neg (hne 1 (by decide)), if_neg (hne 2 (by decide)), if_neg (hne 3 (by decide)),
    if_neg (hne 4 (by decide)), if_neg (hne 5 (by decide))]

/-- R134: the RAM length of an admitted image; a ROM-only one has none, whatever its code says. -/
theorem ramLenFor_some {t c : Byte} (h : t.toNat = 0 ∨ t.toNat ≤ 3 ∧ c.toNat ≤ 5) :
    ramLenFor (if t.toNat = 0 then .romOnly else .mbc1) c = some (if t.toNat = 0 then 0 else ramLenTable c.toNat) := by
  split_ifs with h0
  · rfl
  · exact ramLenOfCode_some (h.resolve_left h0).2

/-! ### What `construct` answers -/

section
variable {b : BuildArgs}

theorem construct_short (h : b.imageLen < 0x150) : construct b = .refused (.imageTooShort b.imageLen) := if_pos h

theorem construct_badType (h : minImageLen ≤ b.imageLen) (hf : familyOfType (imageByte b headerType) = none) :
    construct b = .refused (.cartridgeType (imageByte b headerType)) := by
  unfold construct
  rw [if_neg (Nat.not_lt.2 h), hf]

theorem construct_badRam (h : minImageLen ≤ b.imageLen) {f : Family}
    (hf : familyOfType (imageByte b headerType) = some f) (hn : ramLenFor f (imageByte b headerRamSize) = none) :
    construct b = .refused (.ramSizeCode (imageByte b headerRamSize)) := by
  unfold construct
  rw [if_neg (Nat.not_lt.2 h), hf]
  dsimp only
  rw [hn]

theorem construct_next (h : minImageLen ≤ b.imageLen) {f : Family} {n : Nat}
    (hf : familyOfType (imageByte b headerType) = some f) (hn : ramLenFor f (imageByte b headerRamSize) = some n) :
    construct b = .next (resetState b f n) := by
  unfold construct
  rw [if_neg (Nat.not_lt.2 h), hf]
  dsimp only
  rw [hn]

end

/-! ### The invariant at the reset state -/

theorem resetRegs_flagsLow (b : BuildArgs) : (resetRegs b).f &&& 0x0F = 0 := by
  unfold resetRegs
  split
  · rfl
  · exact flagByteMask_low _

theorem resetState_cpuInv (b : BuildArgs) (f : Family) (n : Nat) : CpuInv (resetState b f n) :=
  cpuInv_iff.2 ⟨resetRegs_flagsLow b, ctlInv_running rfl (Nat.zero_le 24) Bool.noConfusion Bool.noConfusion⟩

theorem resetState_unitInv (b : BuildArgs) (f : Family) (n : Nat) : UnitInv (resetState b f n) where
  taccBound := Nat.zero_lt_succ 1023
  modeDotBound := Nat.zero_lt_succ 79
  lyVisible _ := Nat.zero_lt_succ 143
  lyVblank := PpuMode.noConfusion
  notComposed _ := rfl
  isComposed := PpuMode.noConfusion
  offState := Bool.noConfusion

theorem resetState_memInv {b : BuildArgs} {f : Family} {n : Nat} (hlen : minImageLen ≤ b.imageLen)
    (hn : n ∈ ramLengths) (hrom : f = .romOnly → n = 0) : MemInv (resetState b f n) where
  memWf := Store.ofList_wf _ _
  memKeys := keysOk_ofList _ _
  pixelsWf := Store.ofList_wf (fun k => decide (k < pixelCount)) b.initialPixels
  pixelKeys := keysOk_ofList _ _
  romWf := Store.ofList_wf (fun k => decide (k < b.imageLen)) b.image
  romKeys := keysOk_ofList _ _
  ramWf := Store.ofList_wf (fun k => decide (k < n)) b.cartRamInit
  ramKeys := keysOk_ofList _ _
  bootWf := Store.ofList_wf (fun k => decide (k < 256)) b.params.bootRom
  bootKeys := keysOk_ofList _ _
  romLength := hlen
  ramLength := hn
  romOnlyRam := hrom
  romBankLow := show (1 : BitVec 5) ≠ 0 by decide

theorem construct_inv {b : BuildArgs} {s : State} (h : construct b = .next s) : Inv s := by
  obtain ⟨hlen, f, n, -, hram, rfl⟩ := construct_cases h
  obtain ⟨hn, hrom⟩ := ramLenFor_mem hram
  exact ⟨resetState_cpuInv b f n, resetState_unitInv b f n, resetState_memInv hlen hn hrom⟩

end Sys2Proof.Machine

open Sys2Proof Sys2Proof.Machine

/-- Settles O57: a constructed core is in the reset state of an admitted cartridge. -/
theorem everyConstructedCoreMeetsTheInvariant : Obligations.EveryConstructedCoreMeetsTheInvariant := by
  intro b s h
  have hinv := construct_inv h
  obtain ⟨-, f, n, -, -, rfl⟩ := construct_cases h
  exact ⟨hinv, rfl, rfl⟩

/-- Settles O56: `State.reset` is the construction of the default arguments. -/
theorem resetMeetsTheInvariant : Obligations.ResetMeetsTheInvariant := construct_inv construct_default

/-- Settles O58: the header's two bytes, as numbers, decide between the refusals and the reset state. -/
theorem constructionAndResetValues : Obligations.ConstructionAndResetValues := by
  refine ⟨Store.read_ofList, fun b => ?_⟩
  intro image type code
  refine ⟨construct_short, fun hlen htype => ?_, fun hlen hone hthree hcode => ?_, fun hlen hok => ?_⟩
  · exact construct_badType hlen (familyOfType_none htype)
  · exact construct_badRam hlen (familyOfType_mbc1 hone hthree) (ramLenOfCode_none hcode)
  · have htype : type ≤ 3 := by omega
    refine ⟨resetState b (if type = 0 then .romOnly else .mbc1) (if type = 0 then 0 else ramLenTable code),
      construct_next hlen (familyOfType_some htype) (ramLenFor_some hok), rfl, rfl, rfl, rfl, rfl, rfl, rfl, rfl, rfl,
      rfl, rfl, rfl, rfl, rfl, rfl, rfl, rfl, rfl, rfl, rfl, decide_eq_true_iff, ?_, ?_⟩
    all_goals
      intro hmode
      show resetRegs b = _
      unfold resetRegs
      rw [hmode]

end

section
/-! The frame of memory (20_memory.md R84, R85, R103): an instruction is seen at the addresses its stores reach. -/

namespace Sys2Proof.Machine

/-- Reads do not look at the CPU's own fields (R102). -/
theorem readByte_cpuOnly {s t : State} (h : cpuOnly s t) (a : Word) : readByte t a = readByte s a := by
  obtain ⟨hintr, htimer, hppu, hio, hcart, hmem, -, hparams⟩ := h
  exact readByte_congr hintr htimer hppu hio hcart hmem hparams a

/-- Stores to addresses that reach `b` from none leave what `b` reads. -/
theorem storesTo_readByte {as : List Word} {s t : State} (h : storesTo as s t) {b : Word}
    (hb : ∀ a ∈ as, storeReaches a b = false) : readByte t b = readByte s b := by
  obtain ⟨ws, rfl, hcpu⟩ := h
  rw [readByte_cpuOnly hcpu]
  exact readByte_storeAll ws s b fun w hw => hb w.1 (List.mem_map_of_mem hw)

end Sys2Proof.Machine

open Sys2Proof Sys2Proof.Machine

/-- Settles O10: an instruction's stores are those of its form, and each is seen only where `storeReaches` says. -/
theorem onlyStoredAddressesChange : Obligations.OnlyStoredAddressesChange :=
  fun _ _ _ _ hexec hreach => storesTo_readByte (storesTo_of_exec hexec) hreach

end

section
/-! The pending bits (60_exceptions.md R412, R415): the CPU moves them by a store to IF or a service, and the units only
set bits 0 to 2. -/

namespace Sys2Proof.Machine

/-- Of all writes only one to IF changes the pending bits (R413). -/
theorem writeByte_pending (s : State) (a : Word) (v : Byte) :
    (writeByte s a v).intr.pending = s.intr.pending ∨ a = 0xFF0F := by
  unfold writeByte
  cases ownerOf false a
  case io =>
    unfold ioWrite
    cases hr : ioReg a
    case intFlag => exact Or.inr (ioReg_addr a _ (by rw [hr]; rfl))
    case dma => left; dsimp only; rw [oamDma_eq]
    case boot => left; dsimp only; split_ifs <;> rfl
    all_goals exact Or.inl rfl
  all_goals exact Or.inl rfl

theorem storeAll_pending (ws : List (Word × Byte)) (s : State) (h : 0xFF0F ∉ ws.map Prod.fst) :
    (storeAll ws s).intr.pending = s.intr.pending := by
  induction ws generalizing s with
  | nil => rfl
  | cons w ws ih =>
    rw [List.map_cons, List.mem_cons, not_or] at h
    obtain ⟨hw, hws⟩ := h
    rw [storeAll_cons, ih _ hws]
    exact (writeByte_pending s w.1 w.2).resolve_right (Ne.symm hw)

/-- An instruction that does not store to IF leaves the pending bits. -/
theorem exec_pending {i : Instr} {s t : State} (h : exec i s = .next t) (hi : 0xFF0F ∉ i.shape.stores s) :
    t.intr.pending = s.intr.pending := by
  obtain ⟨ws, haddrs, hintr, -⟩ := storesTo_of_exec h
  rw [hintr]
  exact storeAll_pending ws s (haddrs ▸ hi)

/-- A form's addresses depend on registers and parameters, which waking the core leaves. -/
theorem stores_fetchState (sh : Shape) (s : State) : sh.stores (fetchState s) = sh.stores s := rfl

/-- What the PPU requests is below bit 2 (`PpuFrame.pending`). -/
theorem toNat_lt_of_maskLow {m : BitVec 5} (h : m &&& 0b11100 = 0) : m.toNat < 2 ^ 3 := by
  revert m
  decide

/-- The units only set pending bits, of the sources 0 to 2 (R412, R415). -/
theorem unitsDot_pending (s : State) :
    ∃ m : BitVec 5, m.toNat < 2 ^ 3 ∧ (unitsDot s).intr.pending = s.intr.pending ||| m := by
  unfold unitsDot
  split
  · exact ⟨0, by decide, BitVec.or_zero.symm⟩
  · obtain ⟨m, hm, hppu⟩ := (ppuFrame_ppuDot s).pending
    rw [timerDot_eq]
    dsimp only
    rw [hppu, BitVec.or_assoc]
    refine ⟨_, ?_, rfl⟩
    rw [BitVec.toNat_or]
    refine Nat.or_lt_two_pow (toNat_lt_of_maskLow hm) ?_
    split <;> decide

/-- A pending bit that a step clears, or a bit above 2 that it sets, was so changed by the CPU before the units ran. -/
theorem unitsDot_pending_change {s u : State} {k : Nat}
    (h : (s.intr.pending.getLsbD k = true ∧ (unitsDot u).intr.pending.getLsbD k = false) ∨
      (s.intr.pending.getLsbD k = false ∧ (unitsDot u).intr.pending.getLsbD k = true ∧ 3 ≤ k)) :
    u.intr.pending ≠ s.intr.pending := by
  intro hkept
  obtain ⟨m, hm, hor⟩ := unitsDot_pending u
  rw [hor, hkept, BitVec.getLsbD_or] at h
  rcases h with ⟨hset, hclear⟩ | ⟨hclear, hset, hk⟩
  · rw [hset] at hclear
    exact Bool.noConfusion hclear
  · have hlow : m.getLsbD k = false :=
      Nat.testBit_lt_two_pow (Nat.lt_of_lt_of_le hm (Nat.pow_le_pow_right Nat.two_pos hk))
    rw [hclear, hlow] at hset
    exact Bool.noConfusion hset

end Sys2Proof.Machine

open Sys2Proof Sys2Proof.Machine

/-- Settles O40: the units cannot clear a bit or set bit 3 or 4, so the CPU changed it, by a service or a store to IF. -/
theorem pendingBitsChangeOnlyAsTheRulesSay : Obligations.PendingBitsChangeOnlyAsTheRulesSay := by
  intro s t k h hchange
  obtain ⟨-, u, rfl, hu⟩ := step_inv h
  have hmoved := unitsDot_pending_change hchange
  rcases hu with ⟨-, rfl⟩ | ⟨-, rfl⟩ | ⟨hwait, hrun, hime, hany, -⟩ | ⟨hfetch, i, rest, v, hdec, hv, rfl⟩
  · exact absurd rfl hmoved
  · exact absurd rfl hmoved
  · exact Or.inl ⟨decide_eq_true hwait, hrun, hime, of_decide_eq_true hany⟩
  · refine Or.inr ⟨hfetch, i, rest, hdec, ?_⟩
    by_contra hstore
    refine hmoved ?_
    rw [(cpuOnly_armEi _ v).1, exec_pending hv (stores_fetchState _ s ▸ hstore)]
    rfl

end

section
/-! Reads and writes by address (20_memory.md R80, R87, R88, R93-R95, R98): plain storage, the mirror, the sound block
and the unmapped addresses, each through the owner of the address. -/

namespace Sys2Proof.Machine

/-! ### Plain storage (R87, R88, R90, R98) -/

/-- VRAM, working RAM with its mirror, OAM and HRAM are plain storage. -/
theorem isPlain_of_range {a : Word}
    (h : (0x8000 ≤ a.toNat ∧ a.toNat ≤ 0x9FFF) ∨ (0xC000 ≤ a.toNat ∧ a.toNat ≤ 0xFDFF) ∨
    (0xFE00 ≤ a.toNat ∧ a.toNat ≤ 0xFE9F) ∨ (0xFF80 ≤ a.toNat ∧ a.toNat ≤ 0xFFFE)) :
    (ownerOf false a).isPlain = true := by
  obtain ⟨-, hvram, -, hwram, hoam, -, -, hhram⟩ := ownerOf_of_range a
  rcases h with ⟨hlo, hhi⟩ | ⟨hlo, hhi⟩ | ⟨hlo, hhi⟩ | ⟨hlo, hhi⟩
  · exact congrArg Owner.isPlain (hvram hlo hhi)
  · exact congrArg Owner.isPlain (hwram hlo hhi)
  · exact congrArg Owner.isPlain (hoam hlo hhi)
  · exact congrArg Owner.isPlain (hhram hlo hhi)

/-- The mirrored window reaches the cell 0x2000 below (R88). -/
theorem cellOf_mirror {a : Word} (hlo : 0xE000 ≤ a.toNat) (hhi : a.toNat ≤ 0xFDFF) :
    cellOf (a - 0x2000) = cellOf a := by
  have hsub : (a - 0x2000).toNat = a.toNat - 0x2000 := by bv_omega
  unfold cellOf
  dsimp only
  rw [hsub, if_neg (by omega), if_pos ⟨hlo, hhi⟩]

/-! ### The I/O range (R93) -/

/-- The overlay owns no address above the bottom 256 (R81). -/
theorem ownerOf_above (o : Bool) {a : Word} (h : 0x00FF < a.toNat) : ownerOf o a = ownerOf false a := by
  rw [ownerOf_overlay, decide_eq_false (Nat.not_le.2 h), Bool.and_false]
  rfl

theorem readByte_io (s : State) {a : Word} (hlo : 0xFF00 ≤ a.toNat) (hhi : a.toNat ≤ 0xFF7F) :
    readByte s a = ioRead s a := by
  obtain ⟨-, -, -, -, -, -, hio, -⟩ := ownerOf_of_range a
  unfold readByte
  rw [ownerOf_above _ (by omega), hio hlo hhi]

theorem writeByte_io (s : State) {a : Word} (v : Byte) (hlo : 0xFF00 ≤ a.toNat) (hhi : a.toNat ≤ 0xFF7F) :
    writeByte s a v = ioWrite s a v := by
  obtain ⟨-, -, -, -, -, -, hio, -⟩ := ownerOf_of_range a
  unfold writeByte
  rw [hio hlo hhi]

/-- The sound block (R95). -/
theorem ioReg_apu {a : Word} (hlo : 0xFF10 ≤ a.toNat) (hhi : a.toNat ≤ 0xFF3F) : ioReg a = .apu := by
  have hne (w : Word) (hw : w.toNat < 0xFF10) : a ≠ w := by
    rintro rfl
    omega
  unfold ioReg
  rw [if_neg (hne _ (by decide)), if_neg (hne _ (by decide)), if_neg (hne _ (by decide)), if_neg (hne _ (by decide)),
    if_neg (hne _ (by decide)), if_neg (hne _ (by decide)), if_neg (hne _ (by decide)), if_neg (hne _ (by decide)),
    if_pos ⟨hlo, hhi⟩]

theorem readByte_writeByte_apu (s : State) {a : Word} (v : Byte) (hlo : 0xFF10 ≤ a.toNat) (hhi : a.toNat ≤ 0xFF3F) :
    readByte (writeByte s a v) a = v := by
  rw [readByte_io _ (by omega) (by omega), writeByte_io s v (by omega) (by omega)]
  unfold ioRead ioWrite
  rw [ioReg_apu hlo hhi]
  exact Store.read_write_same _ _ _

/-- An I/O address that no register has is unmapped (R94). -/
theorem ioReg_unmapped {a : Word} (h : a.toNat = 0xFF03 ∨ (0xFF08 ≤ a.toNat ∧ a.toNat ≤ 0xFF0E) ∨
    (0xFF4C ≤ a.toNat ∧ a.toNat ≤ 0xFF4F) ∨ 0xFF51 ≤ a.toNat) : ioReg a = .unmapped := by
  cases hr : ioReg a
  case unmapped => rfl
  case apu =>
    have := apu_range hr
    omega
  all_goals
    cases ioReg_addr a _ (by rw [hr]; rfl)
    exact absurd h (by decide)

/-- A read between OAM and the I/O registers gives 0xFF and a write there is discarded (R94). -/
theorem access_unmapped (s : State) {a : Word} (v : Byte) (hlo : 0xFEA0 ≤ a.toNat) (hhi : a.toNat ≤ 0xFEFF) :
    readByte s a = 0xFF ∧ writeByte s a v = s := by
  obtain ⟨-, -, -, -, -, hunmapped, -, -⟩ := ownerOf_of_range a
  unfold readByte writeByte
  rw [ownerOf_above _ (by omega), hunmapped hlo hhi]
  exact ⟨rfl, rfl⟩

/-- The same for an I/O address without a register (R94). -/
theorem access_io_unmapped (s : State) {a : Word} (v : Byte) (hlo : 0xFF00 ≤ a.toNat) (hhi : a.toNat ≤ 0xFF7F)
    (h : ioReg a = .unmapped) : readByte s a = 0xFF ∧ writeByte s a v = s := by
  rw [readByte_io s hlo hhi, writeByte_io s v hlo hhi]
  unfold ioRead ioWrite
  rw [h]
  exact ⟨rfl, rfl⟩

end Sys2Proof.Machine

open Sys2Proof Sys2Proof.Machine

/-- Settles O51: plain addresses and the sound block are cells of memory, the mirror has the cells 0x2000 below, and the
rest of these addresses has no owner or no register. -/
theorem plainStorageMirrorAndUnmapped : Obligations.PlainStorageMirrorAndUnmapped := by
  intro s a v
  refine ⟨fun hcell => ?_, fun ⟨hlo, hhi⟩ => ?_, fun hnone => ?_⟩
  · by_cases hsound : 0xFF10 ≤ a.toNat ∧ a.toNat ≤ 0xFF3F
    · exact readByte_writeByte_apu s v hsound.1 hsound.2
    · have ha : (ownerOf false a).isPlain = true := isPlain_of_range (by omega)
      exact readByte_writeByte_plain s v ha ha rfl
  · have ha : (ownerOf false a).isPlain = true := isPlain_of_range (by omega)
    have hb : (ownerOf false (a - 0x2000)).isPlain = true := isPlain_of_range (by bv_omega)
    rw [writeByte_plain s v ha, writeByte_plain s v hb, readByte_plain s ha, readByte_plain s hb, cellOf_mirror hlo hhi]
    exact ⟨rfl, rfl⟩
  · by_cases hhole : a.toNat ≤ 0xFEFF
    · exact access_unmapped s v (by omega) hhole
    · exact access_io_unmapped s v (by omega) (by omega) (ioReg_unmapped (by omega))

end

section
/-! The boot overlay (20_memory.md R81, R91, R92). -/

namespace Sys2Proof.Machine

theorem readByte_overlay {s : State} {a : Word} (h : s.io.bootOverlay = true) (ha : a.toNat ≤ 0xFF) :
    readByte s a = Store.read s.params.bootRom a.toNat := by
  rw [readByte_owner, if_pos (by simp [h, ha])]

/-- No register's read looks at the overlay (R93). -/
theorem ioRead_setOverlay (s : State) (o : Bool) (a : Word) :
    ioRead { s with io := { s.io with bootOverlay := o } } a = ioRead s a := by
  unfold ioRead
  cases ioReg a <;> rfl

/-- Above the bottom 256 addresses the overlay is not seen (R81, R91). -/
theorem readByte_setOverlay (s : State) (o : Bool) {a : Word} (ha : 0xFF < a.toNat) :
    readByte { s with io := { s.io with bootOverlay := o } } a = readByte s a := by
  unfold readByte
  dsimp only
  rw [ownerOf_above o ha, ownerOf_above s.io.bootOverlay ha]
  cases ownerOf false a
  case io => exact ioRead_setOverlay s o a
  all_goals rfl

/-- A write to the ROM windows goes to the cartridge, overlay or not (R91). -/
theorem writeByte_rom (s : State) {a : Word} (v : Byte) (ha : a.toNat ≤ 0x7FFF) :
    writeByte s a v = { s with cart := cartWriteControl s.cart a.toNat v } := by
  unfold writeByte
  rw [(ownerOf_of_range a).1 ha]

/-- Every step keeps a cleared overlay cleared (R92). -/
theorem step_overlay {s t : State} (h : step s = .next t) (hs : s.io.bootOverlay = false) :
    t.io.bootOverlay = false := by
  refine step_keeps (P := fun u => u.io.bootOverlay = false) ?_ writeByte_overlay (fun _ _ hu => hu) ?_ h hs
  · intro u w hcpu hu
    obtain ⟨-, -, -, hio, -⟩ := hcpu
    rwa [hio]
  · intro u hu
    obtain ⟨-, -, hio, -⟩ := units_rest u
    rwa [hio]

end Sys2Proof.Machine

open Sys2Proof Sys2Proof.Machine

/-- Settles O54: the overlay decides only who answers a read of the bottom 256 addresses, and a write can only
clear it. -/
theorem bootOverlay : Obligations.BootOverlay := by
  refine ⟨fun s a v => ⟨readByte_overlay, fun ha => ?_, fun ha => ?_, fun hv => if_neg hv, rfl, ?_⟩,
    fun _ _ => step_overlay⟩
  · rw [readByte_setOverlay s true ha, readByte_setOverlay s false ha]
  · exact writeByte_rom s v (by omega)
  · exact readByte_io s (by decide) (by decide)

end

section
/-! The I/O registers by bit fields (20_memory.md R93-R99): what a write keeps of the byte and what a read builds. -/

namespace Sys2Proof.Machine

/-! ### Bit fields as numbers -/

theorem field_eq_ofNat {n : Nat} (v : BitVec n) (lo len : Nat) :
    field v lo len = BitVec.ofNat len (v.toNat / 2 ^ lo) := by
  rw [← Nat.shiftRight_eq_div_pow]
  rfl

/-- The number of two fields side by side. -/
theorem toNat_append_eq_add {m n : Nat} (x : BitVec m) (y : BitVec n) :
    (x ++ y).toNat = 2 ^ n * x.toNat + y.toNat := by
  rw [BitVec.toNat_append, ← Nat.shiftLeft_add_eq_or_of_lt y.isLt, Nat.shiftLeft_eq, Nat.mul_comm]

/-! ### Registers that hold the byte written -/

/-- The register holds a whole byte and a read gives it back. -/
def IoReg.isStored (r : IoReg) : Bool :=
  match r with
  | .sb | .sc | .tima | .tma | .lcdc | .scy | .scx | .lyc | .dma | .bgp | .obp0 | .obp1 | .wy | .wx => true
  | _ => false

theorem readByte_writeByte_stored (s : State) {a : Word} (v : Byte)
    (h : 0xFF00 ≤ a.toNat ∧ a.toNat ≤ 0xFF7F ∧ (ioReg a).isStored = true) :
    readByte (writeByte s a v) a = v := by
  obtain ⟨hlo, hhi, hstored⟩ := h
  rw [writeByte_io s v hlo hhi]
  unfold ioWrite
  cases hr : ioReg a
  case dma =>
    obtain ⟨-, -, -, -, hoam, -⟩ := ownerOf_false_range a
    dsimp only
    rw [readByte_oamDma v _ (fun ho => by have := hoam ho; omega), readByte_io _ hlo hhi]
    unfold ioRead
    rw [hr]
  case sb | sc | tima | tma | lcdc | scy | scx | lyc | bgp | obp0 | obp1 | wy | wx =>
    dsimp only
    rw [readByte_io _ hlo hhi]
    unfold ioRead
    rw [hr]
  all_goals
    rw [hr] at hstored
    cases hstored

/-! ### Registers with fixed bits -/

/-- IE keeps all eight bits of the byte, in two fields (R414). -/
theorem intEnableByte_fields (v : Byte) : field v 5 3 ++ field v 0 5 = v := by
  apply BitVec.eq_of_toNat_eq
  rw [toNat_append_eq_add, field_eq_ofNat, field_eq_ofNat, BitVec.toNat_ofNat, BitVec.toNat_ofNat]
  omega

theorem readByte_writeByte_ie (s : State) (v : Byte) : readByte (writeByte s 0xFFFF v) 0xFFFF = v := by
  unfold readByte
  rw [ownerOf_above _ (by decide)]
  exact intEnableByte_fields v

theorem toNat_tacByte (t : Timer) : (tacByte t).toNat = 0xF8 + t.tac.toNat := toNat_append_eq_add _ _

theorem toNat_intFlagByte (i : Intr) : (intFlagByte i).toNat = 0xE0 + i.pending.toNat := toNat_append_eq_add _ _

/-- R482 in numbers. -/
theorem toNat_statByte (p : Ppu) :
    (statByte p).toNat = 0x80 + 8 * p.statEn.toNat + 4 * p.statLyc.toNat + p.mode.code.toNat := by
  unfold statByte
  simp only [toNat_append_eq_add, BitVec.toNat_ofBool, BitVec.toNat_ofNat]
  omega

theorem toNat_joypByte (io : Io) : (joypByte io).toNat / 16 = 12 + io.joypSel.toNat := by
  unfold joypByte
  rw [toNat_append_eq_add, toNat_append_eq_add, BitVec.toNat_ofNat]
  omega

/-- The four lines of the joypad register (R97). -/
theorem joypByte_line (io : Io) :
    (joypByte io).getLsbD 0 = joypLine io.joypSel io.buttons.right io.buttons.a ∧
    (joypByte io).getLsbD 1 = joypLine io.joypSel io.buttons.left io.buttons.b ∧
    (joypByte io).getLsbD 2 = joypLine io.joypSel io.buttons.up io.buttons.select ∧
    (joypByte io).getLsbD 3 = joypLine io.joypSel io.buttons.down io.buttons.start := by
  unfold joypByte
  simp only [BitVec.getLsbD_append, BitVec.getLsbD_ofBool]
  simp

end Sys2Proof.Machine

open Sys2Proof Sys2Proof.Machine

/-- Settles O52: a whole-byte register gives back what was written, the others the fields of their rule. -/
theorem ioRegisters : Obligations.IoRegisters := by
  intro s v plain
  have stored {a : Word} (h : 0xFF00 ≤ a.toNat ∧ a.toNat ≤ 0xFF7F ∧ (ioReg a).isStored = true) : plain a :=
    readByte_writeByte_stored s v h
  have read {a : Word} (h : 0xFF00 ≤ a.toNat ∧ a.toNat ≤ 0xFF7F) : readByte s a = ioRead s a :=
    readByte_io s h.1 h.2
  refine ⟨stored (by decide), stored (by decide), stored (by decide), stored (by decide), stored (by decide),
    stored (by decide), stored (by decide), stored (by decide), stored (by decide), stored (by decide),
    stored (by decide), stored (by decide), stored (by decide), stored (by decide), readByte_writeByte_ie s v, rfl, ?div,
    rfl, ?tac, rfl, ?intFlag, ?ieWrite, ?statWrite, ?stat, rfl, ?ly, ?joypWrite, ?joyp⟩
  case div =>
    rw [read (by decide)]
    exact toNat_hiByte _
  case tac =>
    rw [read (by decide)]
    exact toNat_tacByte _
  case intFlag =>
    rw [read (by decide)]
    exact toNat_intFlagByte _
  case stat =>
    rw [read (by decide)]
    refine (toNat_statByte _).trans ?_
    cases s.ppu.mode <;> rfl
  case ly =>
    intro hly
    rw [read (by decide)]
    exact Nat.mod_eq_of_lt (by omega)
  case joyp =>
    rw [read (by decide)]
    obtain ⟨h0, h1, h2, h3⟩ := joypByte_line s.io
    exact ⟨h0, h1, h2, h3, toNat_joypByte s.io⟩
  case ieWrite =>
    exact congrArg (fun hi => { s with intr := { s.intr with enabled := BitVec.ofNat 5 v.toNat, ieHi := hi } })
      (field_eq_ofNat v 5 3)
  case statWrite => exact congrArg (fun en => { s with ppu := { s.ppu with statEn := en } }) (field_eq_ofNat v 3 4)
  case joypWrite => exact congrArg (fun sel => { s with io := { s.io with joypSel := sel } }) (field_eq_ofNat v 4 2)

end

section
/-! The cartridge's windows (21_cartridge.md R135-R145, R147): which operation of the cartridge answers an access, and
each operation per family, with its bit fields as numbers. -/

namespace Sys2Proof.Machine

variable {s : State} {c : Cart} {a : Word} {n : Nat}

/-! ### The windows as the dispatcher sees them (R84-R86) -/

theorem readByte_romWindow (hover : s.io.bootOverlay = false) (ha : a.toNat ≤ 0x7FFF) :
    readByte s a = cartReadRom s.cart a.toNat := by
  unfold readByte
  rw [hover, (ownerOf_of_range a).1 ha]

theorem readByte_ramWindow (s : State) (hlo : 0xA000 ≤ a.toNat) (hhi : a.toNat ≤ 0xBFFF) :
    readByte s a = cartReadRam s.cart a.toNat := by
  obtain ⟨-, -, hram, -⟩ := ownerOf_of_range a
  unfold readByte
  rw [ownerOf_above _ (by omega), hram hlo hhi]

theorem writeByte_ramWindow (s : State) (v : Byte) (hlo : 0xA000 ≤ a.toNat) (hhi : a.toNat ≤ 0xBFFF) :
    writeByte s a v = { s with cart := cartWriteRam s.cart a.toNat v } := by
  obtain ⟨-, -, hram, -⟩ := ownerOf_of_range a
  unfold writeByte
  rw [hram hlo hhi]

/-! ### The operations per family -/

theorem cartWriteControl_romOnly (h : c.family = .romOnly) (n : Nat) (v : Byte) : cartWriteControl c n v = c := by
  unfold cartWriteControl
  rw [h]

theorem cartWriteControl_mbc1 (h : c.family = .mbc1) (n : Nat) (v : Byte) :
    cartWriteControl c n v =
      if n ≤ 0x1FFF then writeRamEnable c v
      else if n ≤ 0x3FFF then writeRomLo5 c v
      else if n ≤ 0x5FFF then writeBankHi2 c v
      else writeBankMode c v := by
  unfold cartWriteControl
  rw [h]

theorem romOffset_romOnly (h : c.family = .romOnly) (n : Nat) : romOffset c n = n := by
  unfold romOffset
  rw [h]

theorem romOffset_mbc1 (h : c.family = .mbc1) (n : Nat) :
    romOffset c n = if n ≤ 0x3FFF then n else romBank c * 0x4000 + (n - 0x4000) := by
  unfold romOffset
  rw [h]

theorem romBank_eq (c : Cart) :
    romBank c = if c.bankMode then c.romLo5.toNat else 32 * c.bankHi2.toNat + c.romLo5.toNat := by
  unfold romBank
  rw [Nat.mul_comm]

theorem ramOffset_eq (c : Cart) (n : Nat) :
    ramOffset c n = (if c.bankMode then c.bankHi2.toNat else 0) * 0x2000 + (n - 0xA000) := rfl

theorem ramReached_romOnly (h : c.family = .romOnly) (n : Nat) : ramReached c n = false := by
  unfold ramReached
  rw [h]

theorem ramReached_mbc1 (h : c.family = .mbc1) (n : Nat) :
    ramReached c n = (c.ramEnable && decide (ramOffset c n < c.ramLen)) := by
  unfold ramReached
  rw [h]

/-! ### The control registers as numbers (R136-R139) -/

theorem field_low_eq_ofNat {m : Nat} (v : BitVec m) (len : Nat) : field v 0 len = BitVec.ofNat len v.toNat := by
  rw [field_eq_ofNat, Nat.pow_zero, Nat.div_one]

theorem field_low_eq_iff {m len : Nat} (v : BitVec m) (w : BitVec len) :
    field v 0 len = w ↔ v.toNat % 2 ^ len = w.toNat := by
  rw [field_low_eq_ofNat, ← BitVec.toNat_inj, BitVec.toNat_ofNat]

theorem writeRamEnable_eq (c : Cart) (v : Byte) :
    writeRamEnable c v = { c with ramEnable := decide (v.toNat % 16 = 0xA) } := by
  unfold writeRamEnable
  simp only [field_low_eq_iff]
  rfl

theorem writeRomLo5_eq (c : Cart) (v : Byte) :
    writeRomLo5 c v = { c with romLo5 := if v.toNat % 32 = 0 then 1 else BitVec.ofNat 5 v.toNat } := by
  unfold writeRomLo5
  simp only [field_low_eq_iff]
  rw [field_low_eq_ofNat]
  rfl

theorem writeBankHi2_eq (c : Cart) (v : Byte) :
    writeBankHi2 c v = { c with bankHi2 := BitVec.ofNat 2 v.toNat } := by
  unfold writeBankHi2
  rw [field_low_eq_ofNat]

theorem writeBankMode_eq (c : Cart) (v : Byte) :
    writeBankMode c v = { c with bankMode := decide (v.toNat % 2 = 1) } := by
  unfold writeBankMode bitOf
  rw [BitVec.getLsbD, Nat.testBit_zero]

/-- A bank-select write of 0 selects the bank that a write of 1 would (R137, R140, R145). -/
theorem romBank_writeRomLo5_zero (c : Cart) :
    romBank (writeRomLo5 c 0) = if c.bankMode then 1 else 32 * c.bankHi2.toNat + 1 :=
  romBank_eq (writeRomLo5 c 0)

/-! ### The RAM window (R143, R144, R147) -/

theorem ramWindow_unreached (s : State) (v : Byte) (hlo : 0xA000 ≤ a.toNat) (hhi : a.toNat ≤ 0xBFFF)
    (h : ramReached s.cart a.toNat = false) : readByte s a = 0xFF ∧ writeByte s a v = s := by
  rw [readByte_ramWindow s hlo hhi, writeByte_ramWindow s v hlo hhi]
  unfold cartReadRam cartWriteRam
  rw [h]
  exact ⟨rfl, rfl⟩

theorem cartReadRam_reached (h : ramReached c n = true) : cartReadRam c n = Store.read c.ram (ramOffset c n) :=
  if_pos h

theorem cartReadRam_cartWriteRam (v : Byte) (h : ramReached c n = true) :
    cartReadRam (cartWriteRam c n v) n = v := by
  unfold cartWriteRam
  rw [if_pos h]
  exact (if_pos h).trans (Store.read_write_same c.ram (ramOffset c n) v)

theorem ramWindow_reached (s : State) (v : Byte) (hlo : 0xA000 ≤ a.toNat) (hhi : a.toNat ≤ 0xBFFF)
    (h : ramReached s.cart a.toNat = true) :
    readByte s a = Store.read s.cart.ram (ramOffset s.cart a.toNat) ∧ readByte (writeByte s a v) a = v := by
  rw [readByte_ramWindow s hlo hhi, readByte_ramWindow _ hlo hhi, writeByte_ramWindow s v hlo hhi]
  exact ⟨cartReadRam_reached h, cartReadRam_cartWriteRam v h⟩

/-! ### MBC1's four ranges of control writes -/

theorem writeByte_ramEnable (hf : s.cart.family = .mbc1) (v : Byte) (hhi : a.toNat ≤ 0x1FFF) :
    writeByte s a v = { s with cart := writeRamEnable s.cart v } := by
  rw [writeByte_rom s v (by omega), cartWriteControl_mbc1 hf, if_pos hhi]

theorem writeByte_romLo5 (hf : s.cart.family = .mbc1) (v : Byte) (hlo : 0x2000 ≤ a.toNat) (hhi : a.toNat ≤ 0x3FFF) :
    writeByte s a v = { s with cart := writeRomLo5 s.cart v } := by
  rw [writeByte_rom s v (by omega), cartWriteControl_mbc1 hf, if_neg (by omega), if_pos hhi]

theorem writeByte_bankHi2 (hf : s.cart.family = .mbc1) (v : Byte) (hlo : 0x4000 ≤ a.toNat) (hhi : a.toNat ≤ 0x5FFF) :
    writeByte s a v = { s with cart := writeBankHi2 s.cart v } := by
  rw [writeByte_rom s v (by omega), cartWriteControl_mbc1 hf, if_neg (by omega), if_neg (by omega), if_pos hhi]

theorem writeByte_bankMode (hf : s.cart.family = .mbc1) (v : Byte) (hlo : 0x6000 ≤ a.toNat) (hhi : a.toNat ≤ 0x7FFF) :
    writeByte s a v = { s with cart := writeBankMode s.cart v } := by
  rw [writeByte_rom s v hhi, cartWriteControl_mbc1 hf, if_neg (by omega), if_neg (by omega), if_neg (by omega)]

end Sys2Proof.Machine

open Sys2Proof Sys2Proof.Machine

/-- Settles O53: each window is one operation of the cartridge, and each operation the arithmetic of its rule. -/
theorem cartridgeWindows : Obligations.CartridgeWindows := by
  intro s a v hover n rom bank off
  have readRom (ha : n ≤ 0x7FFF) : readByte s a = rom (romOffset s.cart n) := readByte_romWindow hover ha
  refine ⟨fun hrom => ⟨fun ha => ⟨?romRead, ?romWrite⟩, fun hlo hhi => ?romRam⟩,
    fun hmbc => ⟨fun hhi => ?ramEnable, fun hlo hhi => ?romLo5, fun hlo hhi => ?bankHi2, fun hlo hhi => ?bankMode,
      fun hhi => ?lowWindow, fun hlo hhi => ?highWindow,
      fun hlo hhi => ⟨fun henable hin => ?reached, fun hnot => ?unreached⟩, fun hlo hhi => ?zeroWrite⟩⟩
  case romRead => rw [readRom ha, romOffset_romOnly hrom]
  case romWrite => rw [writeByte_rom s v ha, cartWriteControl_romOnly hrom]
  case romRam => exact ramWindow_unreached s v hlo hhi (ramReached_romOnly hrom n)
  case ramEnable => rw [writeByte_ramEnable hmbc v hhi, writeRamEnable_eq]
  case romLo5 => rw [writeByte_romLo5 hmbc v hlo hhi, writeRomLo5_eq]
  case bankHi2 => rw [writeByte_bankHi2 hmbc v hlo hhi, writeBankHi2_eq]
  case bankMode => rw [writeByte_bankMode hmbc v hlo hhi, writeBankMode_eq]
  case lowWindow => rw [readRom (by omega), romOffset_mbc1 hmbc, if_pos hhi]
  case highWindow => rw [readRom hhi, romOffset_mbc1 hmbc, if_neg (by omega), romBank_eq]
  case reached =>
    refine ramWindow_reached s v hlo hhi ?_
    rw [ramReached_mbc1 hmbc, henable, Bool.true_and, ramOffset_eq]
    exact decide_eq_true hin
  case unreached =>
    refine ramWindow_unreached s v hlo hhi ?_
    rw [ramReached_mbc1 hmbc, Bool.and_eq_false_iff, ramOffset_eq]
    exact hnot.imp_right fun hout => decide_eq_false (Nat.not_lt.2 hout)
  case zeroWrite =>
    rw [writeByte_romLo5 hmbc 0 hlo hhi]
    exact romBank_writeRomLo5_zero s.cart

end

section
/-! The opcode table against the encoder (30_encoding.md R160-R179), in both directions. -/

namespace Sys2Proof.Machine

/-- A row with a two-byte immediate decodes what is encoded with the low byte first (R170, R180). -/
theorem decode_encode_d16 {f : Word → Instr} {op : Byte} (w : Word) (rest : List Byte)
    (hrow : tableAt opTable op = some (.d16 f)) (hencode : encode (f w) = [op, loByte w, hiByte w]) :
    decode (encode (f w) ++ rest) = .instr (f w) rest := by
  have hdecode : decode (encode (f w) ++ rest) = .instr (f (mkWord (hiByte w) (loByte w))) rest := by
    simp only [hencode, List.cons_append, List.nil_append, decode, hrow, decodeRow]
  rw [hdecode, mkWord_hi_lo]

/-- The two bytes of a CB instruction decode to the entry of the CB table (R177). -/
theorem decode_cb {c : Byte} {i : Instr} (h : tableAt cbTable c = some i) (rest : List Byte) :
    decode (cbPrefix :: c :: rest) = .instr i rest := by
  have hrow : tableAt opTable cbPrefix = some .cb := rfl
  simp only [decode, hrow, decodeRow, h]

/-- What a right row reads is well-formed, and its encoding is the bytes it was read from. -/
theorem encode_of_decodeRow {op : Byte} {r : OpRow} {bytes rest : List Byte} {i : Instr} (hrow : rowOk op r)
    (h : decodeRow r bytes = .instr i rest) : i.wellFormed = true ∧ encode i ++ rest = op :: bytes := by
  match r, bytes with
  | .op _, _ =>
    cases h
    obtain ⟨hwf, hencode⟩ := hrow
    exact ⟨hwf, by rw [hencode]; rfl⟩
  | .d8 _, n :: _ =>
    cases h
    obtain ⟨hwf, hencode⟩ := hrow n
    exact ⟨hwf, by rw [hencode]; rfl⟩
  | .d16 _, lo :: hi :: _ =>
    cases h
    obtain ⟨hwf, hencode⟩ := hrow hi lo
    exact ⟨hwf, by rw [hencode]; rfl⟩
  | .cb, c :: _ =>
    obtain ⟨j, hj, hwf, hencode, -⟩ := cbTable_ok c
    simp only [decodeRow, hj] at h
    cases h
    obtain rfl : op = cbPrefix := hrow
    exact ⟨hwf, by rw [hencode]; rfl⟩

end Sys2Proof.Machine

open Sys2Proof Sys2Proof.Machine

/-- Settles O1: the byte composed from an instruction's fields is the place of its row in the table, and a two-byte
immediate is put together again from its halves. -/
theorem decodeOfEncodeIsTheInstruction : Obligations.DecodeOfEncodeIsTheInstruction := by
  intro i rest hwf
  cases i
  case prefixCB c => cases hwf
  case ldBCd16 w | ldMemA16SP w | ldDEd16 w | ldHLd16 w | ldSPd16 w | ldMemA16A w | ldAMemA16 w | jpNZA16 w | jpA16 w |
      callNZA16 w | jpZA16 w | callZA16 w | callA16 w | jpNCA16 w | callNCA16 w | jpCA16 w | callCA16 w =>
    exact decode_encode_d16 w rest rfl rfl
  all_goals rfl

/-- Settles O2: every row of the table is right, and the row reads back what it was given. -/
theorem encodeOfDecodeIsTheBytes : Obligations.EncodeOfDecodeIsTheBytes := by
  intro bytes i rest h
  cases bytes with
  | nil => cases h
  | cons op tail =>
    obtain ⟨r, -, hrow, hdecode⟩ := decode_cons op tail
    exact encode_of_decodeRow hrow (hdecode ▸ h)

/-- Settles O5: the CB table's entry for a byte has the form that the byte's fields name, so `exec` gives both the same
operation. -/
theorem prefixRowRunsTheCbInstruction : Obligations.PrefixRowRunsTheCbInstruction := by
  intro c rest
  obtain ⟨i, hi, -, -, hshape⟩ := cbTable_ok c
  refine ⟨i, decode_cb hi rest, fun s => ?_⟩
  rw [exec_eq_run, exec_eq_run, hshape]
  rfl

/-- Settles O4: the words are rows of the table. -/
theorem sampleWordsDecode : Obligations.SampleWordsDecode := by
  unfold Obligations.SampleWordsDecode
  decide +kernel

end

section
/-! How many bytes the first byte takes (30_encoding.md R175), and the bytes that decoding stops at (R178). -/

namespace Sys2Proof.Machine

/-- How many bytes follow the opcode byte in a row's format (R160). -/
def tailLength (r : OpRow) : Nat :=
  match r with
  | .op _ => 0
  | .d8 _ => 1
  | .d16 _ => 2
  | .cb => 1

/-- R175: the first bytes of the instructions of three bytes. -/
def threeByteOpcodes : List Byte :=
  [0x01, 0x11, 0x21, 0x31, 0x08, 0xC2, 0xC3, 0xC4, 0xCA, 0xCC, 0xCD, 0xD2, 0xD4, 0xDA, 0xDC, 0xEA, 0xFA]

/-- R175: the first bytes of the instructions of two bytes. -/
def twoByteOpcodes : List Byte :=
  [0x06, 0x0E, 0x16, 0x1E, 0x26, 0x2E, 0x36, 0x3E, 0x10, 0x18, 0x20, 0x28, 0x30, 0x38, 0xC6, 0xCE, 0xD6, 0xDE, 0xE6,
   0xEE, 0xF6, 0xFE, 0xE0, 0xF0, 0xE8, 0xF8, 0xCB]

/-- R178: the illegal bytes. -/
def illegalOpcodes : List Byte := [0xD3, 0xDB, 0xDD, 0xE3, 0xE4, 0xEB, 0xEC, 0xED, 0xF4, 0xFC, 0xFD]

/-- The table's formats are those of the lists of R175. -/
theorem opTable_tailLength (op : Byte) : (tableAt opTable op).map tailLength =
    some (if op ∈ threeByteOpcodes then 2 else if op ∈ twoByteOpcodes then 1 else 0) := by
  revert op
  decide +kernel

/-- A row takes its format's bytes and leaves the others. -/
theorem decodeRow_drop (r : OpRow) (b c : Byte) (rest : List Byte) :
    ∃ i, decodeRow r (b :: c :: rest) = .instr i ((b :: c :: rest).drop (tailLength r)) := by
  cases r with
  | op i => exact ⟨i, rfl⟩
  | d8 f => exact ⟨f b, rfl⟩
  | d16 f => exact ⟨f (mkWord c b), rfl⟩
  | cb =>
    obtain ⟨i, hi, -⟩ := cbTable_ok b
    exact ⟨i, by simp only [decodeRow, hi]; rfl⟩

/-- An illegal byte is a one-byte instruction of the form that raises. -/
theorem decode_illegal {op : Byte} (h : op ∈ illegalOpcodes) :
    ∃ i, (∀ rest, decode (op :: rest) = .instr i rest) ∧ i.shape = .illegal op := by
  simp only [illegalOpcodes, List.mem_cons, List.not_mem_nil, or_false] at h
  rcases h with rfl | rfl | rfl | rfl | rfl | rfl | rfl | rfl | rfl | rfl | rfl <;>
  exact ⟨_, fun _ => rfl, rfl⟩

/-- Only the illegal bytes raise under every `STOP_MODE`. -/
theorem mem_illegalOpcodes_of_shape {i : Instr} {op : Byte} (h : i.shape = .illegal op) : op ∈ illegalOpcodes := by
  have hraises := raisingByte_of_shape h { Params.default with stopMode := .nop2 }
  simpa [raisingByte, illegalOpcodes] using hraises

/-- The instruction read from `op` has the raising form of `op` exactly when `op` is illegal. -/
theorem mem_illegalOpcodes_iff {op : Byte} {bytes rest : List Byte} {i : Instr}
    (h : decode (op :: bytes) = .instr i rest) : op ∈ illegalOpcodes ↔ i.shape = .illegal op := by
  refine ⟨fun hop => ?_, mem_illegalOpcodes_of_shape⟩
  obtain ⟨j, hj, hshape⟩ := decode_illegal hop
  obtain ⟨rfl, -⟩ := DecodeResult.instr.inj ((hj bytes).symm.trans h)
  exact hshape

end Sys2Proof.Machine

open Sys2Proof Sys2Proof.Machine

/-- Settles O3: the row of the first byte has a format, and the format says how many bytes are read. -/
theorem firstByteFixesLength : Obligations.FirstByteFixesLength := by
  intro a b c rest
  obtain ⟨r, hr, -, hdecode⟩ := decode_cons a (b :: c :: rest)
  obtain ⟨i, hi⟩ := decodeRow_drop r b c rest
  have hlen := opTable_tailLength a
  rw [hr, Option.map_some, Option.some.injEq] at hlen
  refine ⟨i, ?_, mem_illegalOpcodes_iff (hdecode.trans hi)⟩
  rw [hdecode, hi, hlen]
  change _ = DecodeResult.instr i (if a ∈ threeByteOpcodes then _ else if a ∈ twoByteOpcodes then _ else _)
  split_ifs <;> rfl

end

section
/-! The jumps (44_control.md R320-R324), run from their bytes. -/

namespace Sys2Proof.Machine

/-- R33: the flags are bits of F. -/
theorem flags_bits (s : State) : s.flags.z = s.regs.f.getLsbD 7 ∧ s.flags.n = s.regs.f.getLsbD 6 ∧
    s.flags.h = s.regs.f.getLsbD 5 ∧ s.flags.c = s.regs.f.getLsbD 4 := ⟨rfl, rfl, rfl, rfl⟩

/-- R169: the conditions on the bits of F. -/
theorem condHolds_condTable (s : State) (k : BitVec 2) : condHolds (condTable k) s.flags =
    (if k = 0 then !s.regs.f.getLsbD 7 else if k = 1 then s.regs.f.getLsbD 7
      else if k = 2 then !s.regs.f.getLsbD 4 else s.regs.f.getLsbD 4) := by
  rcases bv2_cases k with rfl | rfl | rfl | rfl <;> rfl

theorem jumpAbs_eq (w : Word) (s : State) : jumpAbs w s = .next (s.ended w 16) := rfl

theorem jumpHl_eq (s : State) : jumpHl s = .next (s.ended s.hl 4) := rfl

theorem jumpAbsIf_eq (cc : Cond) (w : Word) (s : State) : jumpAbsIf cc w s =
    .next (if condHolds cc s.flags then s.ended w 16 else s.ended (nextPc s 3) 12) := by
  unfold jumpAbsIf finish
  simp only [fetched_eq s 3 (by decide), flags_ended, setPc_ended, setWait_ended]
  split_ifs <;> rfl

/-- The target of a relative jump, counted from the next instruction (R323). -/
def relTarget (e : Byte) (s : State) : Word := BitVec.ofInt 16 ((nextPc s 2).toNat + e.toInt)

theorem jumpRel_eq (e : Byte) (s : State) : jumpRel e s = .next (s.ended (relTarget e s) 12) := by
  unfold jumpRel finish
  simp only [fetched_eq s 2 (by decide), pc_ended, add_sext16, setPc_ended, setWait_ended, relTarget]

theorem jumpRelIf_eq (cc : Cond) (e : Byte) (s : State) : jumpRelIf cc e s =
    .next (if condHolds cc s.flags then s.ended (relTarget e s) 12 else s.ended (nextPc s 2) 8) := by
  unfold jumpRelIf finish
  simp only [fetched_eq s 2 (by decide), flags_ended, pc_ended, add_sext16, setPc_ended, setWait_ended, relTarget]
  split_ifs <;> rfl

end Sys2Proof.Machine

open Sys2Proof Sys2Proof.Machine

/-- Settles O30: the bytes of each jump have its form, and each form ends at its target or at the next instruction. -/
theorem jumps : Obligations.Jumps := by
  intro s k e lo hi rel bit taken
  have htaken : condHolds (condTable k) s.flags = taken := condHolds_condTable s k
  refine ⟨flags_bits s, htaken, ?jp, ?jpIf, ?jpHl, ?jr, ?jrIf⟩
  case jp => exact runsTo_of_shape (sh := .jumpAbs (hi ++ lo)) rfl (jumpAbs_eq _ s)
  case jpIf =>
    rw [← htaken]
    refine runsTo_of_shape (sh := .jumpAbsIf (condTable k) (hi ++ lo)) ?_ (jumpAbsIf_eq _ _ s)
    rcases bv2_cases k with rfl | rfl | rfl | rfl <;> rfl
  case jpHl => exact runsTo_of_shape (sh := .jumpHl) rfl (jumpHl_eq s)
  case jr => exact runsTo_of_shape (sh := .jumpRel e) rfl (jumpRel_eq e s)
  case jrIf =>
    rw [← htaken]
    refine runsTo_of_shape (sh := .jumpRelIf (condTable k) e) ?_ (jumpRelIf_eq _ e s)
    rcases bv2_cases k with rfl | rfl | rfl | rfl <;> rfl

end

section
/-! The dot that fetches (60_exceptions.md R400-R404), and the instructions that raise or stop (45_system.md R352, R355,
60_exceptions.md R405). -/

namespace Sys2Proof.Machine

/-- The fetched bytes are at PC and after it; with the latch set the second is at PC again (R351, log 12). -/
theorem fetchBytes_eq (s : State) : fetchBytes s =
    if s.ctl.haltBugLatch then [readByte s s.regs.pc, readByte s s.regs.pc, readByte s (s.regs.pc + 1)]
    else [readByte s s.regs.pc, readByte s (s.regs.pc + 1), readByte s (s.regs.pc + 2)] := by
  have hzero : s.regs.pc + 0 = s.regs.pc := BitVec.add_zero _
  have htwo : s.regs.pc + 1 + 1 = s.regs.pc + 2 := BitVec.add_assoc _ _ _
  unfold fetchBytes State.opcodeStep
  split_ifs
  · simp only [hzero]
  · simp only [htwo]

/-- After a raise neither EI's write nor the units happen (R405). -/
theorem unitsDot_armEi_raised {armed : Bool} {s : State} (h : s.ctl.fatal.isSome = true) :
    unitsDot (armEi armed s) = s := by
  have hnone : s.ctl.fatal.isNone = false := by rw [← Option.not_isSome, h]; rfl
  have harm : armEi armed s = s := by simp [armEi, hnone]
  rw [harm, unitsDot, if_pos h]

/-- After any other instruction EI's write and then the units' dot happen (R400, R404). -/
theorem unitsDot_armEi {armed : Bool} {s : State} (h : s.ctl.fatal = none) : unitsDot (armEi armed s) =
    timerDot (ppuDot (if armed && s.ctl.eiPending
      then { s with ctl := { s.ctl with ime := true, eiPending := false } } else s)) := by
  unfold armEi
  simp only [h, Option.isNone_none, Bool.and_true]
  split_ifs <;> simp [unitsDot, State.setIme, State.setEiPending, h]

/-- The state after a raise (R405), with the latch's exception (log 12). -/
theorem raiseUnimplemented_eq (op : Byte) (s : State) : raiseUnimplemented op s =
    { s with regs := { s.regs with pc := if s.ctl.haltBugLatch then s.regs.pc else s.regs.pc + 1 }
             ctl := { s.ctl with haltBugLatch := false, fatal := some { byte := op, addr := s.regs.pc } } } := by
  rw [← nextPc_one]
  unfold raiseUnimplemented
  rw [fetched_eq s 1 (by decide)]
  rfl

/-- The two bytes of STOP, whatever the second is. -/
theorem decodeShape_stop (d : Byte) : decodeShape [0x10, d] = some .stop := rfl

theorem decodeShape_illegal {op : Byte} (h : op ∈ illegalOpcodes) : decodeShape [op] = some (.illegal op) := by
  obtain ⟨i, hi, hshape⟩ := decode_illegal h
  simp only [decodeShape, hi, hshape]

end Sys2Proof.Machine

open Sys2Proof Sys2Proof.Machine

/-- Settles O6: the dot that fetches is `exec` of what the bytes decode to, and what follows depends on whether it
raised. -/
theorem stepRunsTheDecodedInstruction : Obligations.StepRunsTheDecodedInstruction := by
  intro s t i rest hfetch hdecode hexec
  refine ⟨fetchBytes_eq s, ?_⟩
  obtain ⟨hfatal, -⟩ := (fetchesNext_iff s).1 hfetch
  rw [step_of_cpuDot hfatal (cpuDot_fetch hfetch hdecode hexec)]
  cases ht : t.ctl.fatal with
  | some e => rw [unitsDot_armEi_raised (by rw [ht]; rfl)]; rfl
  | none => rw [unitsDot_armEi ht]; rfl

/-- Settles O34: STOP has one meaning for each `STOP_MODE`, and an illegal byte's form is the raise. -/
theorem stopAndIllegalBytes : Obligations.StopAndIllegalBytes := by
  intro s d raised e
  have hraise (b : Byte) : raiseUnimplemented b s = raised b := raiseUnimplemented_eq b s
  have hfetched := fetched_eq s 2 (by decide)
  refine ⟨fun hmode => ?fault, fun hmode => ?nop2, fun hmode => ?halt, fun b hb => ?illegal⟩
  case fault => exact runsTo_of_shape (decodeShape_stop d) (hraise 0x10 ▸ stop_fault s hmode)
  case nop2 =>
    refine runsTo_of_shape (decodeShape_stop d) ((stop_nop2 s hmode).trans ?_)
    rw [hfetched]
    rfl
  case halt =>
    refine runsTo_of_shape (decodeShape_stop d) ((stop_halt s hmode).trans ?_)
    rw [← clearDiv_eq, hfetched]
    rfl
  case illegal => exact runsTo_of_shape (decodeShape_illegal hb) (congrArg Host.Outcome.next (hraise b))

end

section
/-! The loads, the stores and the stack (40_load.md R200-R225). Each shared operation fetches, writes registers or
memory, and ends; the fetch changes only PC and the latch, so what it answers is the old state's update, ended. -/

namespace Sys2Proof.Machine

/-! ### What each shared operation answers -/

/-- An instruction that writes one register. -/
theorem finish_setReg {n : Nat} (hn : 1 ≤ n) (cost : Nat) (s : State) (r : Reg8) (v : Byte) :
    finish cost ((s.fetched n).setReg r v) = .next ((s.setReg r v).ended (nextPc s n) cost) := by
  rw [fetched_eq s n hn, setReg_ended, finish, setWait_ended]

/-- An instruction that stores one byte. -/
theorem finish_writeByte {n : Nat} (hn : 1 ≤ n) (cost : Nat) (s : State) (a : Word) (v : Byte) :
    finish cost (writeByte (s.fetched n) a v) = .next ((writeByte s a v).ended (nextPc s n) cost) := by
  rw [fetched_eq s n hn, writeByte_ended, finish, setWait_ended]

theorem loadReg_eq (dst src : Reg8) (s : State) :
    loadReg dst src s = .next ((s.setReg dst (s.reg src)).ended (nextPc s 1) 4) := by
  rw [← State.fetched_reg s 1 src]
  exact finish_setReg le_rfl 4 s dst _

theorem loadRegImm_eq (dst : Reg8) (n : Byte) (s : State) :
    loadRegImm dst n s = .next ((s.setReg dst n).ended (nextPc s 2) 8) :=
  finish_setReg (by decide) 8 s dst n

theorem loadRegMem_eq (dst : Reg8) (s : State) :
    loadRegMem dst s = .next ((s.setReg dst (readByte s s.hl)).ended (nextPc s 1) 8) :=
  finish_setReg le_rfl 8 s dst _

theorem loadAccAbs_eq (w : Word) (s : State) :
    loadAccAbs w s = .next ((s.setReg .a (readByte s w)).ended (nextPc s 3) 16) :=
  finish_setReg (by decide) 16 s .a _

theorem loadAccInd_eq (p : Pair) (s : State) :
    loadAccInd p s = .next ((s.setReg .a (readByte s (s.pair p))).ended (nextPc s 1) 8) := by
  rw [← State.fetched_pair s 1 p]
  exact finish_setReg le_rfl 8 s .a _

theorem loadHigh_eq (n : Byte) (s : State) :
    loadHigh n s = .next ((s.setReg .a (readByte s (0xFF00 + n.zeroExtend 16))).ended (nextPc s 2) 12) := by
  rw [← highPage_eq]
  exact finish_setReg (by decide) 12 s .a _

theorem loadHighC_eq (s : State) :
    loadHighC s = .next ((s.setReg .a (readByte s (0xFF00 + s.regs.c.zeroExtend 16))).ended (nextPc s 1) 8) := by
  rw [← highPage_eq]
  exact finish_setReg le_rfl 8 s .a _

theorem loadAccStep_eq (k : Word) (s : State) :
    loadAccStep k s = .next (((s.setReg .a (readByte s s.hl)).setHl (s.hl + k)).ended (nextPc s 1) 8) := by
  unfold loadAccStep finish
  rw [fetched_eq s 1 le_rfl]
  rfl

theorem storeMemReg_eq (src : Reg8) (s : State) :
    storeMemReg src s = .next ((writeByte s s.hl (s.reg src)).ended (nextPc s 1) 8) := by
  rw [← State.fetched_reg s 1 src]
  exact finish_writeByte le_rfl 8 s _ _

theorem storeMemImm_eq (n : Byte) (s : State) :
    storeMemImm n s = .next ((writeByte s s.hl n).ended (nextPc s 2) 12) :=
  finish_writeByte (by decide) 12 s _ n

theorem storeAccAbs_eq (w : Word) (s : State) :
    storeAccAbs w s = .next ((writeByte s w s.regs.a).ended (nextPc s 3) 16) :=
  finish_writeByte (by decide) 16 s w _

theorem storeAccInd_eq (p : Pair) (s : State) :
    storeAccInd p s = .next ((writeByte s (s.pair p) s.regs.a).ended (nextPc s 1) 8) := by
  rw [← State.fetched_pair s 1 p]
  exact finish_writeByte le_rfl 8 s _ _

theorem storeHigh_eq (n : Byte) (s : State) :
    storeHigh n s = .next ((writeByte s (0xFF00 + n.zeroExtend 16) s.regs.a).ended (nextPc s 2) 12) := by
  rw [← highPage_eq]
  exact finish_writeByte (by decide) 12 s _ _

theorem storeHighC_eq (s : State) :
    storeHighC s = .next ((writeByte s (0xFF00 + s.regs.c.zeroExtend 16) s.regs.a).ended (nextPc s 1) 8) := by
  rw [← highPage_eq]
  exact finish_writeByte le_rfl 8 s _ _

/-- The store leaves HL, so the step starts from the address stored to. -/
theorem storeAccStep_eq (k : Word) (s : State) :
    storeAccStep k s = .next (((writeByte s s.hl s.regs.a).setHl (s.hl + k)).ended (nextPc s 1) 8) := by
  unfold storeAccStep finish
  simp only [fetched_eq s 1 le_rfl, reg_ended, hl_ended, writeByte_ended, hl_writeByte, setHl_ended, setWait_ended]
  rfl

theorem loadPairImm_eq (p : Pair) (w : Word) (s : State) :
    loadPairImm p w s = .next ((s.setPair p w).ended (nextPc s 3) 12) := by
  rw [loadPairImm, fetched_eq s 3 (by decide), setPair_ended, finish, setWait_ended]

theorem loadSpHl_eq (s : State) : loadSpHl s = .next ((s.setSp s.hl).ended (nextPc s 1) 8) := by
  unfold loadSpHl finish
  rw [fetched_eq s 1 le_rfl]
  rfl

/-- The first store leaves SP, so both bytes are the old SP's. -/
theorem storeSpAbs_eq (w : Word) (s : State) :
    storeSpAbs w s = .next ((writeByte (writeByte s w (loByte s.regs.sp)) (w + 1) (hiByte s.regs.sp)).ended
      (nextPc s 3) 20) := by
  unfold storeSpAbs finish
  simp only [fetched_eq s 3 (by decide), sp_ended, writeByte_ended, writeByte_regs, setWait_ended]

theorem pushPair_eq (p : StackPair) (s : State) :
    pushPair p s = .next ((afterPush (s.stackPair p) s).ended (nextPc s 1) 16) := by
  unfold pushPair finish
  simp only [fetched_eq s 1 le_rfl, stackPair_ended, push16_ended, setWait_ended]
  rw [push16_eq]

theorem popPair_eq (p : StackPair) (s : State) :
    popPair p s = .next (((s.setSp (s.regs.sp + 2)).setStackPair p (poppedWord s)).ended (nextPc s 1) 12) := by
  unfold popPair finish
  simp only [fetched_eq s 1 le_rfl, dropTop_eq, sp_ended, setSp_ended, setStackPair_ended, setWait_ended]
  rfl

/-! ### The halves of a pair -/

theorem setBc_mkWord (s : State) (hi lo : Byte) :
    s.setBc (mkWord hi lo) = { s with regs := { s.regs with b := hi, c := lo } } := by
  rw [State.setBc, hiByte_mkWord, loByte_mkWord]

theorem setDe_mkWord (s : State) (hi lo : Byte) :
    s.setDe (mkWord hi lo) = { s with regs := { s.regs with d := hi, e := lo } } := by
  rw [State.setDe, hiByte_mkWord, loByte_mkWord]

theorem setHl_mkWord (s : State) (hi lo : Byte) :
    s.setHl (mkWord hi lo) = { s with regs := { s.regs with h := hi, l := lo } } := by
  rw [State.setHl, hiByte_mkWord, loByte_mkWord]

theorem setAf_mkWord (s : State) (hi lo : Byte) :
    s.setAf (mkWord hi lo) = { s with regs := { s.regs with a := hi, f := lo &&& 0xF0 } } := by
  rw [State.setAf, hiByte_mkWord, loByte_mkWord, flagByteMask]

/-- POP AF: the masked flags byte in place (R225). -/
theorem popAf_eq (s : State) : popPair .af s =
    .next (({ s with regs := { s.regs with a := readByte s (s.regs.sp + 1), f := readByte s s.regs.sp &&& 0xF0,
                                           sp := s.regs.sp + 2 } }).ended (nextPc s 1) 12) := by
  rw [popPair_eq, State.setStackPair, poppedWord, ← mkWord, setAf_mkWord]
  rfl

/-! ### The bytes of the forms that name registers -/

theorem decodeShape_loadReg {y z : BitVec 3} {dst src : Reg8} (hy : r8Table y = .reg dst) (hz : r8Table z = .reg src) :
    decodeShape [opcodeByte 1 y z] = some (.loadReg dst src) := by
  rcases bv3_cases y with rfl | rfl | rfl | rfl | rfl | rfl | rfl | rfl <;> cases hy <;>
  rcases bv3_cases z with rfl | rfl | rfl | rfl | rfl | rfl | rfl | rfl <;> cases hz <;> rfl

theorem decodeShape_loadRegImm {y : BitVec 3} {dst : Reg8} (hy : r8Table y = .reg dst) (d : Byte) :
    decodeShape [opcodeByte 0 y 6, d] = some (.loadRegImm dst d) := by
  rcases bv3_cases y with rfl | rfl | rfl | rfl | rfl | rfl | rfl | rfl <;> cases hy <;> rfl

theorem decodeShape_loadRegMem {y : BitVec 3} {dst : Reg8} (hy : r8Table y = .reg dst) :
    decodeShape [opcodeByte 1 y 6] = some (.loadRegMem dst) := by
  rcases bv3_cases y with rfl | rfl | rfl | rfl | rfl | rfl | rfl | rfl <;> cases hy <;> rfl

theorem decodeShape_storeMemReg {z : BitVec 3} {src : Reg8} (hz : r8Table z = .reg src) :
    decodeShape [opcodeByte 1 6 z] = some (.storeMemReg src) := by
  rcases bv3_cases z with rfl | rfl | rfl | rfl | rfl | rfl | rfl | rfl <;> cases hz <;> rfl

theorem decodeShape_loadPairImm (p : BitVec 2) (lo hi : Byte) :
    decodeShape [BitVec.ofNat 8 (0x01 + 16 * p.toNat), lo, hi] = some (.loadPairImm (pairTable p) (mkWord hi lo)) := by
  rcases bv2_cases p with rfl | rfl | rfl | rfl <;> rfl

theorem decodeShape_pushPair (p : BitVec 2) :
    decodeShape [BitVec.ofNat 8 (0xC5 + 16 * p.toNat)] = some (.pushPair (stackPairTable p)) := by
  rcases bv2_cases p with rfl | rfl | rfl | rfl <;> rfl

theorem decodeShape_popPair (p : BitVec 2) :
    decodeShape [BitVec.ofNat 8 (0xC1 + 16 * p.toNat)] = some (.popPair (stackPairTable p)) := by
  rcases bv2_cases p with rfl | rfl | rfl | rfl <;> rfl

end Sys2Proof.Machine

open Sys2Proof Sys2Proof.Machine

/-- Settles O14: the bytes have the form of their operands, and the form writes its destination alone. -/
theorem registerLoads : Obligations.RegisterLoads := by
  refine ⟨fun s d => ⟨rfl, ⟨rfl, rfl, rfl, rfl, rfl, rfl, rfl⟩, rfl, rfl, rfl, rfl, rfl, rfl, rfl⟩, ?_⟩
  intro s y z dst src d hdst
  refine ⟨fun hsrc => ?register, ?immediate, ?memory⟩
  case register => exact runsTo_of_shape (decodeShape_loadReg hdst hsrc) (loadReg_eq dst src s)
  case immediate => exact runsTo_of_shape (decodeShape_loadRegImm hdst d) (loadRegImm_eq dst d s)
  case memory => exact runsTo_of_shape (decodeShape_loadRegMem hdst) (loadRegMem_eq dst s)

/-- Settles O15: each form reads its address and writes A; the stepping forms then step HL. -/
theorem accumulatorLoads : Obligations.AccumulatorLoads := by
  intro s d lo hi
  rw [BitVec.sub_eq_add_neg]
  refine ⟨?absolute, ?bc, ?de, ?high, ?highC, ?increment, ?decrement⟩
  case absolute => exact runsTo_of_shape (sh := .loadAccAbs (mkWord hi lo)) rfl (loadAccAbs_eq _ s)
  case bc => exact runsTo_of_shape (sh := .loadAccInd .bc) rfl (loadAccInd_eq _ s)
  case de => exact runsTo_of_shape (sh := .loadAccInd .de) rfl (loadAccInd_eq _ s)
  case high => exact runsTo_of_shape (sh := .loadHigh d) rfl (loadHigh_eq d s)
  case highC => exact runsTo_of_shape (sh := .loadHighC) rfl (loadHighC_eq s)
  case increment => exact runsTo_of_shape (sh := .loadAccStep 1) rfl (loadAccStep_eq _ s)
  case decrement => exact runsTo_of_shape (sh := .loadAccStep (-1)) rfl (loadAccStep_eq _ s)

/-- Settles O16: each form is one dispatcher write; the stepping forms then step HL, which the write has left. -/
theorem byteStores : Obligations.ByteStores := by
  intro s z src d lo hi
  rw [BitVec.sub_eq_add_neg]
  refine ⟨fun hsrc => ?register, ?immediate, ?absolute, ?bc, ?de, ?high, ?highC, ?increment, ?decrement⟩
  case register => exact runsTo_of_shape (decodeShape_storeMemReg hsrc) (storeMemReg_eq src s)
  case immediate => exact runsTo_of_shape (sh := .storeMemImm d) rfl (storeMemImm_eq d s)
  case absolute => exact runsTo_of_shape (sh := .storeAccAbs (mkWord hi lo)) rfl (storeAccAbs_eq _ s)
  case bc => exact runsTo_of_shape (sh := .storeAccInd .bc) rfl (storeAccInd_eq _ s)
  case de => exact runsTo_of_shape (sh := .storeAccInd .de) rfl (storeAccInd_eq _ s)
  case high => exact runsTo_of_shape (sh := .storeHigh d) rfl (storeHigh_eq d s)
  case highC => exact runsTo_of_shape (sh := .storeHighC) rfl (storeHighC_eq s)
  case increment => exact runsTo_of_shape (sh := .storeAccStep 1) rfl (storeAccStep_eq _ s)
  case decrement => exact runsTo_of_shape (sh := .storeAccStep (-1)) rfl (storeAccStep_eq _ s)

/-- Settles O17: a pair's write sets its two halves, and the stored SP is not changed by the first of its two stores. -/
theorem pairLoads : Obligations.PairLoads := by
  intro s lo hi put
  refine ⟨rfl, ⟨rfl, rfl, rfl, rfl, rfl⟩, ?halves, fun p => ?immediate, ?spHl, ?spStore⟩
  case halves => exact ⟨setBc_mkWord s hi lo, setDe_mkWord s hi lo, setHl_mkWord s hi lo, rfl, rfl⟩
  case immediate => exact runsTo_of_shape (decodeShape_loadPairImm p lo hi) (loadPairImm_eq _ _ s)
  case spHl => exact runsTo_of_shape (sh := .loadSpHl) rfl (loadSpHl_eq s)
  case spStore => exact runsTo_of_shape (sh := .storeSpAbs (mkWord hi lo)) rfl (storeSpAbs_eq _ s)

/-- Settles O18: PUSH is the push of the pair, POP writes the popped word to it; for AF the low half is masked. -/
theorem pushAndPop : Obligations.PushAndPop := by
  intro s p
  refine ⟨rfl, ⟨rfl, rfl, rfl, rfl, fun w => ⟨rfl, rfl, rfl⟩⟩, ?push, fun _ => ?pop, ?popAf⟩
  case push => exact runsTo_of_shape (decodeShape_pushPair p) (pushPair_eq _ s)
  case pop => exact runsTo_of_shape (decodeShape_popPair p) (popPair_eq _ s)
  case popAf => exact runsTo_of_shape (sh := .popPair .af) rfl (popAf_eq s)

end

section
/-! The 8-bit arithmetic and logic (41_alu8.md R239-R255). Each operation ends with a byte and four flags; the
arithmetic of the byte and the flags is Laws/Flags.lean. -/

namespace Sys2Proof.Machine

/-! ### A result and its flags in the statements' terms -/

/-- A write of the four flags is a write of the byte they make up (R33). -/
theorem setFlags_eq (s : State) (z n h c : Bool) :
    s.setFlags ⟨z, n, h, c⟩ = { s with regs := { s.regs with f := packFlags z n h c } } := by
  rw [State.setFlags, toByte_eq]

theorem setAcc_pack (s : State) (x : Byte) (z n h c : Bool) :
    s.setAcc ⟨x, ⟨z, n, h, c⟩⟩ = { s with regs := { s.regs with a := x, f := packFlags z n h c } } := by
  rw [setAcc_eq, toByte_eq]

/-- Any form of an ALU operation, once the operation's outcome is known. -/
theorem aluForm_ends {y : BitVec 3} {s : State} {bytes : List Byte} {v x : Byte} {cost : Nat} {z n h c : Bool}
    (hform : aluForm y s bytes v cost) (hout : aluOut (aluTable y) s.regs.a v s.flags.c = ⟨x, ⟨z, n, h, c⟩⟩) :
    runsTo bytes s (({ s with regs := { s.regs with a := x, f := packFlags z n h c } }).ended
      (nextPc s bytes.length) cost) := by
  rw [← setAcc_pack, ← hout]
  exact aluForm_runs hform

/-- A byte is 0 as a number (R240-R251: Z). -/
theorem decide_eq_zero (r : Byte) : decide (r = 0) = decide (r.toNat = 0) :=
  decide_eq_decide.2 BitVec.toNat_inj.symm

/-! ### Sums and differences (R240-R243, R247) -/

/-- R242: no borrow comes in. -/
theorem subWithBorrow_false (a v : Byte) : subWithBorrow a v false =
    ⟨BitVec.ofInt 8 ((a.toNat : Int) - v.toNat),
      ⟨decide (((a.toNat : Int) - v.toNat) % 256 = 0), true, decide (a.toNat % 16 < v.toNat % 16),
        decide (a.toNat < v.toNat)⟩⟩ := by
  rw [subWithBorrow_eq]
  simp only [Bool.toNat_false, Nat.cast_zero, Int.sub_zero, Nat.add_zero]

/-- R247: CP has the flags of SUB and leaves A. -/
theorem aluOut_cp (a v : Byte) (k : Bool) : aluOut .cp a v k = ⟨a, (subWithBorrow a v false).flags⟩ := rfl

/-! ### Logic (R244-R246) -/

/-- The outcome of a logic operation: Z from the result, H as the operation forces it. -/
def logicOut (r : Byte) (h : Bool) : Out8 := ⟨r, ⟨decide (r.toNat = 0), false, h, false⟩⟩

theorem andOut_eq (a v : Byte) : andOut a v = logicOut (a &&& v) true := by
  rw [andOut, decide_eq_zero, logicOut]

theorem xorOut_eq (a v : Byte) : xorOut a v = logicOut (a ^^^ v) false := by
  rw [xorOut, decide_eq_zero, logicOut]

theorem orOut_eq (a v : Byte) : orOut a v = logicOut (a ||| v) false := by
  rw [orOut, decide_eq_zero, logicOut]

/-! ### INC and DEC (R248-R251) -/

theorem incOut_eq (o : Byte) (f : Flags) : incOut o f =
    ⟨o + 1, ⟨decide ((o.toNat + 1) % 256 = 0), false, decide (o.toNat % 16 = 15), f.c⟩⟩ := by
  have hz : (o + 1).toNat = (o.toNat + 1) % 256 := BitVec.toNat_add o 1
  rw [incOut, decide_eq_zero, hz]
  rfl

theorem decOut_eq (o : Byte) (f : Flags) : decOut o f =
    ⟨o - 1, ⟨decide (o.toNat = 1), true, decide (o.toNat % 16 = 0), f.c⟩⟩ := by
  have hz : o - 1 = 0 ↔ o.toNat = 1 := by bv_omega
  rw [decOut]
  simp only [hz]
  rfl

/-- An instruction of one byte that writes a register and the flags. -/
theorem finish_setReg_setFlags (cost : Nat) (s : State) (r : Reg8) (v : Byte) (f : Flags) :
    finish cost (((s.fetched 1).setReg r v).setFlags f) =
      .next (((s.setReg r v).setFlags f).ended (nextPc s 1) cost) := by
  rw [fetched_eq s 1 le_rfl, setReg_ended, setFlags_ended, finish, setWait_ended]

/-- An instruction of one byte that stores a byte and writes the flags. -/
theorem finish_writeByte_setFlags (cost : Nat) (s : State) (a : Word) (v : Byte) (f : Flags) :
    finish cost ((writeByte (s.fetched 1) a v).setFlags f) =
      .next (((writeByte s a v).setFlags f).ended (nextPc s 1) cost) := by
  rw [fetched_eq s 1 le_rfl, writeByte_ended, setFlags_ended, finish, setWait_ended]

theorem incReg_eq (r : Reg8) (s : State) : incReg r s =
    .next (((s.setReg r (incOut (s.reg r) s.flags).result).setFlags (incOut (s.reg r) s.flags).flags).ended
      (nextPc s 1) 4) := by
  rw [← State.fetched_reg s 1 r]
  exact finish_setReg_setFlags 4 s r _ _

theorem decReg_eq (r : Reg8) (s : State) : decReg r s =
    .next (((s.setReg r (decOut (s.reg r) s.flags).result).setFlags (decOut (s.reg r) s.flags).flags).ended
      (nextPc s 1) 4) := by
  rw [← State.fetched_reg s 1 r]
  exact finish_setReg_setFlags 4 s r _ _

theorem incMem_eq (s : State) : incMem s =
    .next (((writeByte s s.hl (incOut (readByte s s.hl) s.flags).result).setFlags
      (incOut (readByte s s.hl) s.flags).flags).ended (nextPc s 1) 12) :=
  finish_writeByte_setFlags 12 s _ _ _

theorem decMem_eq (s : State) : decMem s =
    .next (((writeByte s s.hl (decOut (readByte s s.hl) s.flags).result).setFlags
      (decOut (readByte s s.hl) s.flags).flags).ended (nextPc s 1) 12) :=
  finish_writeByte_setFlags 12 s _ _ _

theorem decodeShape_incReg {y : BitVec 3} {r : Reg8} (hy : r8Table y = .reg r) :
    decodeShape [opcodeByte 0 y 4] = some (.incReg r) := by
  rcases bv3_cases y with rfl | rfl | rfl | rfl | rfl | rfl | rfl | rfl <;> cases hy <;> rfl

theorem decodeShape_decReg {y : BitVec 3} {r : Reg8} (hy : r8Table y = .reg r) :
    decodeShape [opcodeByte 0 y 5] = some (.decReg r) := by
  rcases bv3_cases y with rfl | rfl | rfl | rfl | rfl | rfl | rfl | rfl <;> cases hy <;> rfl

/-! ### DAA, CPL, SCF and CCF (R252-R255) -/

/-- R33: the weights of the four flags. -/
theorem toNat_packFlags (z n h c : Bool) :
    (packFlags z n h c).toNat = 128 * z.toNat + 64 * n.toNat + 32 * h.toNat + 16 * c.toNat := by
  have hz := z.toNat_le
  have hn := n.toNat_le
  have hh := h.toNat_le
  have hc := c.toNat_le
  exact Nat.mod_eq_of_lt (by omega)

/-- A one-byte form that ends with a byte in A and four flags in F, at the cost of 4 dots. -/
theorem runsTo_setAcc {b x : Byte} {sh : Shape} {s : State} {z n h c : Bool} (hd : decodeShape [b] = some sh)
    (hr : sh.run s = finish 4 ((s.fetched 1).setAcc ⟨x, ⟨z, n, h, c⟩⟩)) :
    runsTo [b] s (({ s with regs := { s.regs with a := x, f := packFlags z n h c } }).ended (nextPc s 1) 4) := by
  rw [← setAcc_pack]
  exact runsTo_of_shape hd (hr.trans (finish_setReg_setFlags 4 s .a x _))

theorem decimalAdjust_eq (s : State) :
    decimalAdjust s = finish 4 ((s.fetched 1).setAcc (daaOut s.regs.a s.flags)) := rfl

/-- R253: the complement is the distance from 255. -/
theorem not_eq_ofNat (a : Byte) : ~~~a = BitVec.ofNat 8 (255 - a.toNat) := by
  apply BitVec.eq_of_toNat_eq
  rw [BitVec.toNat_not, BitVec.toNat_ofNat]
  omega

theorem complementAcc_eq (s : State) : complementAcc s =
    finish 4 ((s.fetched 1).setAcc ⟨BitVec.ofNat 8 (255 - s.regs.a.toNat), ⟨s.flags.z, true, true, s.flags.c⟩⟩) := by
  rw [← not_eq_ofNat]
  rfl

theorem setCarry_eq (s : State) :
    setCarry s = finish 4 ((s.fetched 1).setAcc ⟨s.regs.a, ⟨s.flags.z, false, false, true⟩⟩) := rfl

theorem complementCarry_eq (s : State) :
    complementCarry s = finish 4 ((s.fetched 1).setAcc ⟨s.regs.a, ⟨s.flags.z, false, false, !s.flags.c⟩⟩) := rfl

end Sys2Proof.Machine

open Sys2Proof Sys2Proof.Machine

/-- Settles O19: both operations are the exact sum, for ADD without a carry in. -/
theorem additions : Obligations.Additions := by
  intro s bytes v cost a k
  refine ⟨fun hform => ?add, fun hform => ?adc⟩
  case add => exact aluForm_ends hform (addWithCarry_eq s.regs.a v false)
  case adc => exact aluForm_ends hform (addWithCarry_eq s.regs.a v s.flags.c)

/-- Settles O20: the three operations are the exact difference; CP takes its flags and leaves A. -/
theorem subtractionsAndCompare : Obligations.SubtractionsAndCompare := by
  intro s bytes v cost a n k
  refine ⟨fun hform => ?sub, fun hform => ?sbc, fun hform => ?cp⟩
  case sub => exact aluForm_ends hform (subWithBorrow_false s.regs.a v)
  case sbc => exact aluForm_ends hform (subWithBorrow_eq s.regs.a v s.flags.c)
  case cp =>
    refine aluForm_ends (x := s.regs.a) hform ((aluOut_cp _ _ _).trans ?_)
    rw [subWithBorrow_false]

/-- Settles O21: a byte is its eight bits, so `r` is the operation's result. -/
theorem logicOperations : Obligations.LogicOperations := by
  intro s bytes v r y h cost hop hform
  rcases hop with ⟨rfl, rfl, hbits⟩ | ⟨rfl, rfl, hbits⟩ | ⟨rfl, rfl, hbits⟩
  case inl =>
    obtain rfl : r = s.regs.a &&& v :=
      BitVec.eq_of_getLsbD_eq fun j hj => (hbits j hj).trans BitVec.getLsbD_and.symm
    exact aluForm_ends hform (andOut_eq s.regs.a v)
  case inr.inl =>
    obtain rfl : r = s.regs.a ^^^ v :=
      BitVec.eq_of_getLsbD_eq fun j hj => (hbits j hj).trans BitVec.getLsbD_xor.symm
    exact aluForm_ends hform (xorOut_eq s.regs.a v)
  case inr.inr =>
    obtain rfl : r = s.regs.a ||| v :=
      BitVec.eq_of_getLsbD_eq fun j hj => (hbits j hj).trans BitVec.getLsbD_or.symm
    exact aluForm_ends hform (orOut_eq s.regs.a v)

/-- Settles O22: the register or memory form writes the same byte and flags; a store leaves the registers. -/
theorem incrementsAndDecrements : Obligations.IncrementsAndDecrements := by
  intro s y r hy inc dec m
  refine ⟨?incReg, ?decReg, ?incMem, ?decMem⟩
  case incReg =>
    refine runsTo_of_shape (decodeShape_incReg hy) ((incReg_eq r s).trans ?_)
    rw [incOut_eq, setFlags_eq]
  case decReg =>
    refine runsTo_of_shape (decodeShape_decReg hy) ((decReg_eq r s).trans ?_)
    rw [decOut_eq, setFlags_eq]
  case incMem =>
    refine runsTo_of_shape (sh := .incMem) rfl ((incMem_eq s).trans ?_)
    rw [incOut_eq, setFlags_eq, writeByte_regs]
  case decMem =>
    refine runsTo_of_shape (sh := .decMem) rfl ((decMem_eq s).trans ?_)
    rw [decOut_eq, setFlags_eq, writeByte_regs]

/-- Settles O23: each of the four instructions ends with a byte in A, for SCF and CCF the old one, and four flags. -/
theorem accumulatorAndFlagOperations : Obligations.AccumulatorAndFlagOperations := by
  intro s a hi up add down sub r out
  refine ⟨toNat_packFlags, ?daa, ?cpl, ?scf, ?ccf⟩
  case daa =>
    have hout := daaOut_eq s.regs.a s.flags
    exact runsTo_setAcc (sh := .decimalAdjust) rfl ((decimalAdjust_eq s).trans (by rw [hout]))
  case cpl => exact runsTo_setAcc (sh := .complementAcc) rfl (complementAcc_eq s)
  case scf => exact runsTo_setAcc (sh := .setCarry) rfl (setCarry_eq s)
  case ccf => exact runsTo_setAcc (sh := .complementCarry) rfl (complementCarry_eq s)

end

section
/-! The 16-bit arithmetic (42_alu16.md R270-R274). Each operation writes a pair or SP and, where it has flags, all four
of them; the sums are stated with the model's own words and turned into numbers where an obligation asks for them. -/

namespace Sys2Proof.Machine

/-- An instruction of one byte that writes one pair. -/
theorem finish_setPair (cost : Nat) (s : State) (p : Pair) (v : Word) :
    finish cost ((s.fetched 1).setPair p v) = .next ((s.setPair p v).ended (nextPc s 1) cost) := by
  rw [fetched_eq s 1 le_rfl, setPair_ended, finish, setWait_ended]

/-- An instruction that writes HL and the flags. -/
theorem finish_setHl_setFlags {n : Nat} (hn : 1 ≤ n) (cost : Nat) (s : State) (v : Word) (f : Flags) :
    finish cost (((s.fetched n).setHl v).setFlags f) =
      .next (((s.setHl v).setFlags f).ended (nextPc s n) cost) := by
  rw [fetched_eq s n hn, setHl_ended, setFlags_ended, finish, setWait_ended]

theorem addHl_eq (p : Pair) (s : State) : addHl p s =
    .next (((s.setHl (s.hl + s.pair p)).setFlags (addHlFlags s.hl (s.pair p) s.flags)).ended (nextPc s 1) 8) := by
  rw [← State.fetched_pair s 1 p]
  exact finish_setHl_setFlags le_rfl 8 s _ _

theorem incPair_eq (p : Pair) (s : State) :
    incPair p s = .next ((s.setPair p (s.pair p + 1)).ended (nextPc s 1) 8) := by
  rw [← State.fetched_pair s 1 p]
  exact finish_setPair 8 s p _

theorem decPair_eq (p : Pair) (s : State) :
    decPair p s = .next ((s.setPair p (s.pair p - 1)).ended (nextPc s 1) 8) := by
  rw [← State.fetched_pair s 1 p]
  exact finish_setPair 8 s p _

theorem addSpDisp_eq (e : Byte) (s : State) : addSpDisp e s =
    .next (((s.setSp (s.regs.sp + sext16 e)).setFlags (spDispFlags s.regs.sp e)).ended (nextPc s 2) 16) := by
  unfold addSpDisp finish
  simp only [fetched_eq s 2 (by decide), sp_ended, setSp_ended, setFlags_ended, setWait_ended]

/-- The displacement is added to SP, and HL takes the sum. -/
theorem loadHlSpDisp_eq (e : Byte) (s : State) : loadHlSpDisp e s =
    .next (((s.setHl (s.regs.sp + sext16 e)).setFlags (spDispFlags s.regs.sp e)).ended (nextPc s 2) 12) :=
  finish_setHl_setFlags (by decide) 12 s _ _

theorem decodeShape_addHl (p : BitVec 2) :
    decodeShape [BitVec.ofNat 8 (0x09 + 16 * p.toNat)] = some (.addHl (pairTable p)) := by
  rcases bv2_cases p with rfl | rfl | rfl | rfl <;> rfl

theorem decodeShape_incPair (p : BitVec 2) :
    decodeShape [BitVec.ofNat 8 (0x03 + 16 * p.toNat)] = some (.incPair (pairTable p)) := by
  rcases bv2_cases p with rfl | rfl | rfl | rfl <;> rfl

theorem decodeShape_decPair (p : BitVec 2) :
    decodeShape [BitVec.ofNat 8 (0x0B + 16 * p.toNat)] = some (.decPair (pairTable p)) := by
  rcases bv2_cases p with rfl | rfl | rfl | rfl <;> rfl

end Sys2Proof.Machine

open Sys2Proof Sys2Proof.Machine

/-- Settles O24: the sum of two words is their sum as numbers modulo 2^16; INC and DEC write the pair alone. -/
theorem pairArithmetic : Obligations.PairArithmetic := by
  intro s p v
  refine ⟨?add, ?inc, ?dec⟩
  case add =>
    refine runsTo_of_shape (decodeShape_addHl p) ((addHl_eq (pairTable p) s).trans ?_)
    rw [BitVec.add_def, addHlFlags, setFlags_eq]
  case inc => exact runsTo_of_shape (decodeShape_incPair p) (incPair_eq (pairTable p) s)
  case dec => exact runsTo_of_shape (decodeShape_decPair p) (decPair_eq (pairTable p) s)

/-- Settles O25: a word plus a sign-extended byte is the signed sum modulo 2^16, in SP or in the halves of HL. -/
theorem stackPointerDisplacement : Obligations.StackPointerDisplacement := by
  intro s e t f
  refine ⟨?addSp, ?loadHl⟩
  case addSp =>
    refine runsTo_of_shape (sh := .addSpDisp e) rfl ((addSpDisp_eq e s).trans ?_)
    rw [add_sext16, spDispFlags, setFlags_eq]
    rfl
  case loadHl =>
    refine runsTo_of_shape (sh := .loadHlSpDisp e) rfl ((loadHlSpDisp_eq e s).trans ?_)
    rw [add_sext16, spDispFlags, setFlags_eq]
    rfl

end

section
/-! The rotates, the shifts and the single bits (43_rotate_bit.md R290-R305). The CB forms run in Laws/Forms.lean and
their arithmetic is Laws/Flags.lean; here the two meet in the terms of `cbForm`. -/

namespace Sys2Proof.Machine

/-! ### Rotates and shifts (R290-R302) -/

/-- The fetch leaves A and F. -/
theorem rotAcc_eq (op : RotOp) (s : State) :
    rotAcc op s = finish 4 ((s.fetched 1).setAcc (rotAccOut op s.regs.a s.flags.c)) := rfl

theorem rotAccOut_eq (op : RotOp) (v : Byte) (k : Bool) : rotAccOut op v k =
    ⟨BitVec.ofNat 8 (rotNumber op v.toNat k.toNat), ⟨false, false, false, rotCarry op v⟩⟩ := by
  rw [rotAccOut, rotResult_eq]

theorem rotOut_eq (op : RotOp) (v : Byte) (k : Bool) : rotOut op v k =
    ⟨BitVec.ofNat 8 (rotNumber op v.toNat k.toNat),
      ⟨decide (rotNumber op v.toNat k.toNat % 256 = 0), false, false, rotCarry op v⟩⟩ := by
  have hzero (n : Nat) : BitVec.ofNat 8 n = 0 ↔ n % 256 = 0 := trunc8_eq_zero n
  rw [rotOut, rotResult_eq]
  simp only [hzero]

/-- An accumulator rotate, once the bit it moves out is known. -/
theorem rotAcc_runs {op : RotOp} {b : Byte} {s : State} {c : Bool} (hd : decodeShape [b] = some (.rotAcc op))
    (hc : rotCarry op s.regs.a = c) :
    runsTo [b] s (({ s with regs := { s.regs with
      a := BitVec.ofNat 8 (rotNumber op s.regs.a.toNat s.flags.c.toNat), f := packFlags false false false c } }).ended
        (nextPc s 1) 4) := by
  refine runsTo_setAcc hd ((rotAcc_eq op s).trans ?_)
  rw [rotAccOut_eq, hc]

/-- A CB rotate or shift on any operand, once the bit it moves out is known. -/
theorem cbForm_rot_runs {op : RotOp} {y z : BitVec 3} {s : State} {v : Byte} {write : Byte → State} {cost : Nat}
    {c : Bool} (hform : cbForm z s v write cost) (hop : rotTable y = op) (hc : rotCarry op v = c) :
    let n := rotNumber op v.toNat s.flags.c.toNat
    let t := write (BitVec.ofNat 8 n)
    runsTo [0xCB, opcodeByte 0 y z] s
      (({ t with regs := { t.regs with f := packFlags (decide (n % 256 = 0)) false false c } }).ended
        (nextPc s 2) cost) := by
  obtain ⟨rfl, hwrite, rfl, -⟩ := cbForm_operand hform
  have hrun := cbRot_runs s y z
  rw [hop, rotOut_eq, hc, setFlags_eq, ← hwrite] at hrun
  exact hrun

/-! ### Single bits (R303-R305) -/

theorem bitTestFlags_eq (b : BitVec 3) (v : Byte) (f : Flags) :
    bitTestFlags b v f = ⟨decide (v.toNat / 2 ^ b.toNat % 2 = 0), false, true, f.c⟩ := by
  rw [bitTestFlags, bit_eq]

end Sys2Proof.Machine

open Sys2Proof Sys2Proof.Machine

/-- Settles O26: each rotate is its number in A and the bit moved out in C. -/
theorem accumulatorRotates : Obligations.AccumulatorRotates := by
  intro s a k out
  refine ⟨?rlca, ?rrca, ?rla, ?rra⟩
  case rlca => exact rotAcc_runs rfl (rotCarry_eq .rlc s.regs.a)
  case rrca => exact rotAcc_runs rfl (rotCarry_eq .rrc s.regs.a)
  case rla => exact rotAcc_runs rfl (rotCarry_eq .rl s.regs.a)
  case rra => exact rotAcc_runs rfl (rotCarry_eq .rr s.regs.a)

/-- Settles O27: each operation is its number written back to the operand and the bit moved out in C. -/
theorem cbRotatesAndShifts : Obligations.CbRotatesAndShifts := by
  intro s z v write cost hform n k out
  refine ⟨?rlc, ?rrc, ?rl, ?rr, ?sla, ?sra, ?swap, ?srl⟩
  case rlc => exact cbForm_rot_runs hform rfl (rotCarry_eq .rlc v)
  case rrc => exact cbForm_rot_runs hform rfl (rotCarry_eq .rrc v)
  case rl => exact cbForm_rot_runs hform rfl (rotCarry_eq .rl v)
  case rr => exact cbForm_rot_runs hform rfl (rotCarry_eq .rr v)
  case sla => exact cbForm_rot_runs hform rfl (rotCarry_eq .sla v)
  case sra => exact cbForm_rot_runs hform rfl (rotCarry_eq .sra v)
  case swap => exact cbForm_rot_runs hform rfl (rotCarry_eq .swap v)
  case srl => exact cbForm_rot_runs hform rfl (rotCarry_eq .srl v)

/-- Settles O28: BIT ends with its four flags in F, for the test's cost and not the write's. -/
theorem bitTests : Obligations.BitTests := by
  intro s b z v write cost hform
  obtain ⟨rfl, -, -, hcost⟩ := cbForm_operand hform
  rw [hcost, ← setFlags_eq, ← bitTestFlags_eq]
  exact cbBit_runs s b z

/-- Settles O29: the byte written back is the number with bit `b` taken out or put in. -/
theorem bitResetsAndSets : Obligations.BitResetsAndSets := by
  intro s b z v write cost hform bit
  obtain ⟨rfl, hwrite, rfl, -⟩ := cbForm_operand hform
  refine ⟨?res, ?set⟩
  case res =>
    rw [hwrite, ← resBit_eq]
    exact cbRes_runs s b z
  case set =>
    rw [hwrite, ← setBit_eq]
    exact cbSet_runs s b z

end

section
/-! The calls, the restarts and the returns (44_control.md R325-R331): a push or a pop of R13, ended at the target. -/

namespace Sys2Proof.Machine

/-! ### Calls and restarts (R325, R326, R331) -/

/-- The end of a call: after the fetch of `n` bytes, the next address is pushed and PC set to the target. -/
theorem finish_call {n : Nat} (hn : 1 ≤ n) (cost : Nat) (s : State) (w : Word) :
    finish cost ((push16 (s.fetched n).regs.pc (s.fetched n)).setPc w) =
      .next ((afterPush (nextPc s n) s).ended w cost) := by
  rw [fetched_eq s n hn, pc_ended, push16_ended, push16_eq, setPc_ended, finish, setWait_ended]

theorem callAbs_eq (w : Word) (s : State) : callAbs w s = .next ((afterPush (nextPc s 3) s).ended w 24) :=
  finish_call (by decide) 24 s w

theorem callAbsIf_eq (cc : Cond) (w : Word) (s : State) : callAbsIf cc w s =
    .next (if condHolds cc s.flags then (afterPush (nextPc s 3) s).ended w 24 else s.ended (nextPc s 3) 12) := by
  unfold callAbsIf
  dsimp only
  rw [finish_call (by decide), fetched_eq s 3 (by decide), flags_ended, finish, setWait_ended]
  split_ifs <;> rfl

theorem restart_eq (y : BitVec 3) (s : State) :
    restart y s = .next ((afterPush (nextPc s 1) s).ended (BitVec.ofNat 16 (8 * y.toNat)) 16) := by
  rw [mul_comm]
  exact finish_call le_rfl 16 s _

theorem decodeShape_restart (y : BitVec 3) : decodeShape [opcodeByte 3 y 7] = some (.restart y) := by
  rcases bv3_cases y with rfl | rfl | rfl | rfl | rfl | rfl | rfl | rfl <;> rfl

/-! ### Returns (R327-R329) -/

/-- The end of a return: after the fetch of `n` bytes, PC is the popped word. -/
theorem finish_return {n : Nat} (hn : 1 ≤ n) (cost : Nat) (s : State) :
    finish cost ((dropTop (s.fetched n)).setPc (stackTop (s.fetched n))) =
      .next ((s.setSp (s.regs.sp + 2)).ended (poppedWord s) cost) := by
  rw [fetched_eq s n hn, dropTop_eq, sp_ended, setSp_ended, setPc_ended, finish, setWait_ended]
  rfl

theorem ret_eq (s : State) : ret s = .next ((s.setSp (s.regs.sp + 2)).ended (poppedWord s) 16) :=
  finish_return le_rfl 16 s

theorem retIf_eq (cc : Cond) (s : State) : retIf cc s =
    .next (if condHolds cc s.flags then (s.setSp (s.regs.sp + 2)).ended (poppedWord s) 20
      else s.ended (nextPc s 1) 8) := by
  unfold retIf
  dsimp only
  rw [finish_return le_rfl, fetched_eq s 1 le_rfl, flags_ended, finish, setWait_ended]
  split_ifs <;> rfl

/-- RETI is RET with IME set at once (R329). -/
theorem reti_eq (s : State) :
    reti s = .next (((s.setSp (s.regs.sp + 2)).setIme true).ended (poppedWord s) 16) := by
  unfold reti returnFromInterrupt finish
  rw [fetched_eq s 1 le_rfl, dropTop_eq, sp_ended, setSp_ended, setPc_ended]
  rfl

end Sys2Proof.Machine

open Sys2Proof Sys2Proof.Machine

/-- Settles O31: each form pushes the next instruction's address and ends at its target; an untaken CALL only ends. -/
theorem callsAndRestarts : Obligations.CallsAndRestarts := by
  intro s k y lo hi bit taken
  have htaken : condHolds (condTable k) s.flags = taken := condHolds_condTable s k
  refine ⟨?call, ?callIf, ?rst⟩
  case call => exact runsTo_of_shape (sh := .callAbs (hi ++ lo)) rfl (callAbs_eq _ s)
  case callIf =>
    rw [← htaken]
    refine runsTo_of_shape (sh := .callAbsIf (condTable k) (hi ++ lo)) ?_ (callAbsIf_eq _ _ s)
    rcases bv2_cases k with rfl | rfl | rfl | rfl <;> rfl
  case rst => exact runsTo_of_shape (decodeShape_restart y) (restart_eq y s)

/-- Settles O32: each form ends at the popped word with SP past it; RETI sets IME besides, an untaken RET only ends. -/
theorem returns : Obligations.Returns := by
  intro s k bit taken back
  have htaken : condHolds (condTable k) s.flags = taken := condHolds_condTable s k
  refine ⟨?ret, ?retIf, ?reti⟩
  case ret => exact runsTo_of_shape (sh := .ret) rfl (ret_eq s)
  case retIf =>
    rw [← htaken]
    refine runsTo_of_shape (sh := .retIf (condTable k)) ?_ (retIf_eq _ s)
    rcases bv2_cases k with rfl | rfl | rfl | rfl <;> rfl
  case reti => exact runsTo_of_shape (sh := .reti) rfl (reti_eq s)

end

section
/-! What becomes of EI's deferred write (45_system.md R353, R354, 60_exceptions.md R404) and of a raise (R405) in the step
that fetches; NOP, HALT, DI and EI run from their bytes (R350-R354). -/

namespace Sys2Proof.Machine

variable {s : State} {sh : Shape} {i : Instr} {rest : List Byte}

/-! ### Control after the dot that fetches -/

theorem prefixShape_writesControl (c : Byte) : (prefixShape c).writesControl = false := by
  unfold prefixShape
  dsimp only
  split_ifs <;> rfl

/-- DI is the only instruction of its form. -/
theorem eq_di_of_shape (h : i.shape = .disableInts) : i = .di := by
  cases i
  case di => rfl
  case prefixCB c =>
    have hcontrol : (prefixShape c).writesControl = true := congrArg Shape.writesControl h
    exact absurd ((prefixShape_writesControl c).symm.trans hcontrol) (by decide)
  all_goals cases h

/-- Only DI cancels a deferred write of EI (R353). -/
theorem CtlAfter.eiPending_kept {c : Ctl} (h : CtlAfter s sh c) (hdi : sh ≠ .disableInts)
    (hpending : s.ctl.eiPending = true) : c.eiPending = true := by
  cases h
  case disableInts => exact absurd rfl hdi
  case enableInts => rfl
  all_goals exact hpending

theorem CtlAfter.ei {c : Ctl} (h : CtlAfter s .enableInts c) : c.ime = s.ctl.ime ∧ c.eiPending = true := by
  cases h
  case ordinary control _ => cases control
  case enableInts => exact ⟨rfl, rfl⟩

theorem CtlAfter.di {c : Ctl} (h : CtlAfter s .disableInts c) : c.ime = false ∧ c.eiPending = false := by
  cases h
  case ordinary control _ => cases control
  case disableInts => exact ⟨rfl, rfl⟩

/-- EI's deferred write on the control state (R404). -/
def Ctl.armed (c : Ctl) : Ctl := { c with ime := true, eiPending := false }

/-- The step that fetches an instruction that does not raise ends with the control state of the instruction, after EI's
deferred write where that was pending before and after it. -/
theorem step_fetch_ctl (hfetch : fetchesNext s = true) (hdecode : decode (fetchBytes s) = .instr i rest)
    (hraises : i.shape.raises s = false) : ∃ t c, step s = .next t ∧ CtlAfter (fetchState s) i.shape c ∧
      t.ctl = if s.ctl.eiPending && c.eiPending then c.armed else c := by
  obtain ⟨hfatal, -⟩ := (fetchesNext_iff s).1 hfetch
  obtain ⟨u, hrun, -⟩ := run_stores i.shape (fetchState s)
  have hexec : exec i (fetchState s) = .next u := (exec_eq_run i _).trans hrun
  have hctl := exec_ctl hexec
  have hufatal : u.ctl.fatal = none := (hctl.fatal_eq hraises).trans hfatal
  refine ⟨_, u.ctl, step_of_cpuDot hfatal (cpuDot_fetch hfetch hdecode hexec), hctl, ?_⟩
  obtain ⟨-, -, -, -, hunits⟩ := units_rest
    (if s.ctl.eiPending && u.ctl.eiPending then { u with ctl := u.ctl.armed } else u)
  rw [unitsDot_armEi hufatal]
  refine hunits.trans ?_
  split_ifs <;> rfl

/-! ### The raise -/

/-- A byte that raises decodes to an instruction that raises it (R178, R352, R355). -/
theorem exec_raisingByte {op : Byte} {bytes : List Byte} (hop : raisingByte s.params op = true)
    (hdecode : decode (op :: bytes) = .instr i rest) : exec i s = .next (raiseUnimplemented op s) := by
  simp only [raisingByte, Bool.or_eq_true, Bool.and_eq_true, decide_eq_true_eq] at hop
  rw [exec_eq_run]
  rcases hop with hillegal | ⟨rfl, hmode⟩
  · rw [(mem_illegalOpcodes_iff hdecode).1 hillegal]
    rfl
  · cases bytes with
    | nil => cases hdecode
    | cons d bytes =>
      cases hdecode
      exact stop_fault s hmode

/-- The step that fetches a raising byte is the raise alone: no deferred write of EI, no dot of the units (R405). -/
theorem step_raisingByte (hfetch : fetchesNext s = true) (hop : raisingByte s.params (readByte s s.regs.pc) = true) :
    step s = .next (raiseUnimplemented (readByte s s.regs.pc) (fetchState s)) := by
  obtain ⟨hfatal, -⟩ := (fetchesNext_iff s).1 hfetch
  obtain ⟨i, rest, hdecode⟩ := decode_fetchBytes s
  have hexec := exec_raisingByte (s := fetchState s) hop hdecode
  rw [step_of_cpuDot hfatal (cpuDot_fetch hfetch hdecode hexec), unitsDot_armEi_raised rfl]

/-! ### What NOP, HALT, DI and EI answer -/

theorem nop_eq (s : State) : nop s = .next (s.ended (nextPc s 1) 4) := by
  rw [nop, finish, fetched_eq s 1 (by decide), setWait_ended]

theorem disableInts_eq (s : State) : disableInts s =
    .next (((s.ended (nextPc s 1) 4).setIme false).setEiPending false) := by
  rw [disableInts, finish, fetched_eq s 1 (by decide)]
  rfl

theorem enableInts_eq (s : State) : enableInts s = .next ((s.ended (nextPc s 1) 4).setEiPending true) := by
  rw [enableInts, finish, fetched_eq s 1 (by decide)]
  rfl

/-- The latch is armed where HALT would wake at once with IME = 0 (R351). -/
theorem haltState_armsLatch (hbug : s.params.haltBug = .doubleRead) (hime : s.ctl.ime = false)
    (hsome : anyEligible s.intr = true) : haltState s = (s.setHalted false).setHaltBugLatch true := by
  simp [haltState, hbug, hime, hsome]

theorem haltState_halts (h : s.params.haltBug = .none ∨ s.ctl.ime = true ∨ anyEligible s.intr = false) :
    haltState s = s.setHalted true := by
  unfold haltState
  cases hbug : s.params.haltBug with
  | none => rfl
  | doubleRead =>
    rcases h with hnobug | hime | hnone
    · cases hbug.symm.trans hnobug
    · simp [hime]
    · simp [hnone]

theorem halt_armsLatch (hbug : s.params.haltBug = .doubleRead) (hime : s.ctl.ime = false)
    (hsome : anyEligible s.intr = true) :
    halt s = .next (((s.ended (nextPc s 1) 4).setHalted false).setHaltBugLatch true) := by
  rw [halt, finish, haltState_armsLatch (s := s.fetched 1) hbug hime hsome, fetched_eq s 1 (by decide)]
  rfl

theorem halt_halts (h : s.params.haltBug = .none ∨ s.ctl.ime = true ∨ anyEligible s.intr = false) :
    halt s = .next ((s.ended (nextPc s 1) 4).setHalted true) := by
  rw [halt, finish, haltState_halts (s := s.fetched 1) h, fetched_eq s 1 (by decide)]
  rfl

/-! ### The host's calls -/

/-- With the action buttons selected, a pressed one pulls its line to 0 (R97). -/
theorem joypLine_action_pressed (direction : Bool) : joypLine 0b01 direction true = false := by
  cases direction <;> rfl

end Sys2Proof.Machine

open Sys2Proof Sys2Proof.Machine

/-- Settles O37: the deferred write happens where `ei_pending` is set before and after the instruction; it is left set by
every instruction but DI. -/
theorem eiTakesEffectAfterTheNextInstruction : Obligations.EiTakesEffectAfterTheNextInstruction := by
  intro s i rest hfetch hdecode hraises
  obtain ⟨t, c, hstep, hafter, hctl⟩ := step_fetch_ctl hfetch hdecode hraises
  refine ⟨t, hstep, ?ei, ?di, ?other⟩
  case ei =>
    rintro hclear rfl
    rw [hctl, hclear]
    exact hafter.ei
  case di =>
    rintro - rfl
    obtain ⟨hime, hclear⟩ := hafter.di
    rw [hctl, hclear, Bool.and_false]
    exact ⟨hime, hclear⟩
  case other =>
    intro hpending hne
    have hkept := hafter.eiPending_kept (mt eq_di_of_shape hne) hpending
    rw [hctl, hpending, hkept]
    exact ⟨rfl, rfl⟩

/-- Settles O38: the byte at PC raises whatever follows it, and a core with `fatal` set does not advance. -/
theorem fatalErrorHaltsTheCore : Obligations.FatalErrorHaltsTheCore := by
  refine ⟨fun _ _ => step_fatal, fun s hfetch hop => ?_⟩
  intro t
  have ht : raiseUnimplemented (readByte s s.regs.pc) (fetchState s) = t := raiseUnimplemented_eq _ _
  exact ⟨ht ▸ step_raisingByte hfetch hop, step_fatal (s := t) rfl⟩

/-- Settles O33: each of the four is one byte, and its form ends at the next instruction with the control state of its
rule. -/
theorem systemInstructions : Obligations.SystemInstructions := by
  intro s e
  refine ⟨?nop, fun hbug => ?haltNone, fun hbug hime hsome => ?haltBug, fun hbug h => ?haltHalts, ?di, ?ei⟩
  case nop => exact runsTo_of_shape (sh := .nop) rfl (nop_eq s)
  case haltNone => exact runsTo_of_shape (sh := .halt) rfl (halt_halts (.inl hbug))
  case haltBug => exact runsTo_of_shape (sh := .halt) rfl (halt_armsLatch hbug hime (decide_eq_true hsome))
  case haltHalts =>
    have hnone : s.ctl.ime = true ∨ anyEligible s.intr = false :=
      h.imp_right fun hzero => decide_eq_false (not_not_intro hzero)
    exact runsTo_of_shape (sh := .halt) rfl (halt_halts (.inr hnone))
  case di => exact runsTo_of_shape (sh := .disableInts) rfl (disableInts_eq s)
  case ei => exact runsTo_of_shape (sh := .enableInts) rfl (enableInts_eq s)

/-- Settles O59: the statement's `put` is `Buttons.set`, so each call is its rule's update by definition; a pressed Start
pulls line 3 of the action group to 0. -/
theorem hostPressAndRelease : Obligations.HostPressAndRelease := by
  intro s k put
  refine ⟨rfl, rfl, ?start⟩
  case start =>
    rintro rfl hsel
    obtain ⟨-, -, -, hline⟩ := joypByte_line (press .start s).io
    have hread : readByte (press .start s) 0xFF00 = joypByte (press .start s).io := readByte_io _ (by decide) (by decide)
    have hsel' : (press .start s).io.joypSel = 0b01 := hsel
    rw [hread, hline, hsel']
    exact joypLine_action_pressed _

end

section
/-! What a dot does at each kind of boundary (60_exceptions.md R400-R409, R417, R433), and what completing an
instruction costs (70_reset_and_hazards.md R550). -/

namespace Sys2Proof.Machine

variable {s t : State} {sh : Shape} {c : Ctl}

/-! ### The cost of an instruction -/

theorem costIf_dots {cc : Cond} {f : Flags} {taken notTaken : Nat} (htaken : taken % 4 = 0 ∧ 4 ≤ taken)
    (hnotTaken : notTaken % 4 = 0 ∧ 4 ≤ notTaken) :
    costIf cc f taken notTaken % 4 = 0 ∧ 4 ≤ costIf cc f taken notTaken := by
  unfold costIf
  split <;> assumption

/-- A form that does not raise takes whole machine cycles of 4 dots, at least one (R550). -/
theorem Shape.cost_dots (h : sh.raises s = false) (f : Flags) : sh.cost f % 4 = 0 ∧ 4 ≤ sh.cost f := by
  cases sh
  case illegal => cases h
  case jumpAbsIf | jumpRelIf | callAbsIf | retIf => exact costIf_dots (by decide) (by decide)
  case cbRot _ o | cbBit _ o | cbRes _ o | cbSet _ o => cases o <;> simp [Shape.cost, Operand8.cost]
  all_goals simp [Shape.cost]

theorem CtlAfter.wait_eq (h : CtlAfter s sh c) (hsh : sh.raises s = false) : c.wait = sh.cost s.flags := by
  cases h
  case illegal => cases hsh
  case stopFault mode => simp [Shape.raises, mode] at hsh
  all_goals rfl

/-- A raise records the error and sets no cost (R405). -/
theorem CtlAfter.raised (h : CtlAfter s sh c) (hsh : sh.raises s = true) :
    c.fatal.isSome = true ∧ c.wait = s.ctl.wait := by
  cases h
  case ordinary _ raises => exact absurd (raises.symm.trans hsh) Bool.false_ne_true
  case illegal | stopFault => exact ⟨rfl, rfl⟩
  case stopNop mode | stopped mode => simp [Shape.raises, mode] at hsh
  all_goals cases hsh

theorem takeInterrupt_wait (s : State) : (takeInterrupt s).ctl.wait = 20 := by
  rw [takeInterrupt_eq]
  rfl

/-! ### The ways a dot goes without a fetch -/

theorem unitsDot_running (h : s.ctl.fatal = none) : unitsDot s = timerDot (ppuDot s) := by
  unfold unitsDot
  rw [h]
  rfl

/-- At a boundary the dot is the boundary's, then the units'. -/
theorem step_of_boundary (hfatal : s.ctl.fatal = none) (hwait : s.ctl.wait ≤ 1) (ht : t.ctl.fatal = none)
    (hb : boundary (s.setWait 0) = .next t) : step s = .next (timerDot (ppuDot t)) := by
  rw [step_of_cpuDot hfatal ((cpuDot_boundary hwait).trans hb), unitsDot_running ht]

theorem step_waiting (hfatal : s.ctl.fatal = none) (hwait : 1 < s.ctl.wait) :
    step s = .next (timerDot (ppuDot (s.setWait (s.ctl.wait - 1)))) := by
  rw [step_of_cpuDot hfatal (cpuDot_wait hwait), unitsDot_running (s := s.setWait (s.ctl.wait - 1)) hfatal]

theorem step_stopped (hfatal : s.ctl.fatal = none) (hwait : s.ctl.wait ≤ 1) (hstopped : s.ctl.stopped = true) :
    step s = .next (timerDot (ppuDot (s.setWait 0))) :=
  step_of_boundary hfatal hwait hfatal (boundary_stopped hstopped)

theorem step_idle (hfatal : s.ctl.fatal = none) (hwait : s.ctl.wait ≤ 1) (hstopped : s.ctl.stopped = false)
    (hhalted : s.ctl.halted = true) (hnone : anyEligible s.intr = false) :
    step s = .next (timerDot (ppuDot (s.setWait 0))) :=
  step_of_boundary hfatal hwait hfatal (boundary_idle hstopped hhalted hnone)

theorem step_service (hfatal : s.ctl.fatal = none) (hwait : s.ctl.wait ≤ 1) (hstopped : s.ctl.stopped = false)
    (hservice : (s.ctl.ime && anyEligible s.intr) = true) :
    step s = .next (timerDot (ppuDot (takeInterrupt (s.setWait 0)))) := by
  refine step_of_boundary hfatal hwait ?_ (boundary_service hstopped hservice)
  rw [takeInterrupt_eq]
  exact hfatal

theorem step_eq_of_cpuDot (hs : s.ctl.fatal = none) (ht : t.ctl.fatal = none) (h : cpuDot s = cpuDot t) :
    step s = step t := by
  unfold step dot
  rw [hs, ht, h]

/-- A halted core that wakes without a service fetches as one that was not halted (R408). -/
theorem step_woken (hfatal : s.ctl.fatal = none) (hwait : s.ctl.wait ≤ 1) (hstopped : s.ctl.stopped = false)
    (hsome : anyEligible s.intr = true) (hime : s.ctl.ime = false) : step s = step (s.setHalted false) := by
  have hservice : (s.ctl.ime && anyEligible s.intr) = false := by rw [hime]; rfl
  have hidle : (s.ctl.halted && !anyEligible s.intr) = false := by rw [hsome, Bool.not_true, Bool.and_false]
  refine step_eq_of_cpuDot hfatal hfatal ?_
  rw [cpuDot_boundary hwait, cpuDot_boundary (s := s.setHalted false) hwait,
    boundary_fetch (s := s.setWait 0) hstopped hservice hidle,
    boundary_fetch (s := (s.setHalted false).setWait 0) hstopped hservice (Bool.false_and _)]
  rfl

/-! ### The service -/

/-- The service of source `k`, in the terms of R403: the push goes into the state whose request is cleared. -/
theorem takeInterrupt_setWait (n : Nat) {k : Nat} (hk : lowestEligible s.intr = k) : takeInterrupt (s.setWait n) =
    { afterPush s.regs.pc (clearPending k s) with
      regs := { s.regs with sp := s.regs.sp - 2, pc := vectorOf k }
      ctl := { s.ctl with ime := false, eiPending := false, halted := false, wait := serviceCost } } := by
  have hclear : clearPending k (s.setWait n) = { clearPending k s with ctl := (s.setWait n).ctl } := rfl
  rw [takeInterrupt_eq, State.setWait_intr, hk, hclear, afterPush_setCtl]
  rfl

/-! ### The quiescent halt -/

theorem quiescentHalt_iff : quiescentHalt s = true ↔ s.ctl.fatal = none ∧ s.ctl.wait ≤ 1 ∧ s.ctl.halted = true ∧
    s.intr.enabled = 0 ∧ s.ctl.stopped = false := by
  simp [quiescentHalt, faulted, atBoundary, and_assoc]

theorem anyEligible_of_enabled_zero {i : Intr} (h : i.enabled = 0) : anyEligible i = false := by
  simp [anyEligible, eligible, h]

theorem units_mem_enabled (s : State) :
    (timerDot (ppuDot s)).mem = s.mem ∧ (timerDot (ppuDot s)).intr.enabled = s.intr.enabled := by
  rw [timerDot_eq, (ppuFrame_ppuDot s).rest]
  exact ⟨rfl, rfl⟩

end Sys2Proof.Machine

open Sys2Proof Sys2Proof.Machine

/-- Settles O7: every form answers a next state, and `CtlAfter` says what it leaves in `fatal` and `wait`. -/
theorem everyInstructionCompletes : Obligations.EveryInstructionCompletes := by
  refine ⟨fun i s => ?_, takeInterrupt_wait⟩
  obtain ⟨t, hrun, -⟩ := run_stores i.shape s
  have hexec : exec i s = .next t := (exec_eq_run i s).trans hrun
  have hctl := exec_ctl hexec
  refine ⟨t, hexec, fun hsh => ?_, hctl.raised⟩
  obtain ⟨hmod, hpos⟩ := Shape.cost_dots hsh s.flags
  have hwait := hctl.wait_eq hsh
  rw [hwait]
  exact ⟨hctl.fatal_eq hsh, rfl, hmod, hpos, Shape.cost_le _ _⟩

/-- Settles O35: one lemma for each way the dot goes. -/
theorem boundariesWithoutService : Obligations.BoundariesWithoutService := by
  intro s hfatal some1 idle
  refine ⟨step_waiting hfatal, step_stopped hfatal, fun hwait hstopped hhalted hnone => ?idle,
    fun hwait hstopped _ hsome hime => ?woken⟩
  case idle => exact step_idle hfatal hwait hstopped hhalted (decide_eq_false hnone)
  case woken => exact step_woken hfatal hwait hstopped (decide_eq_true hsome) hime

/-- Settles O36: `k` is the source that the service chooses, and a store does not look at the control state. -/
theorem interruptServiceTakesTheLowestSource : Obligations.InterruptServiceTakesTheLowestSource := by
  intro s k hfatal hwait hstopped hime hk hpending henabled hlower p
  have hservice : (s.ctl.ime && anyEligible s.intr) = true := by
    rw [hime, anyEligible_of_bit s.intr k hpending henabled]
    rfl
  rw [step_service hfatal hwait hstopped hservice,
    takeInterrupt_setWait 0 (lowestEligible_eq s.intr k hk hpending henabled hlower)]
  rfl

/-- Settles O60: with IE = 0 nothing is eligible, so the core idles, and the units leave the CPU, memory, IE and the
cartridge. -/
theorem quiescentHaltStays : Obligations.QuiescentHaltStays := by
  intro s h
  obtain ⟨hfatal, hwait, hhalted, henabled, hstopped⟩ := quiescentHalt_iff.1 h
  obtain ⟨hcart, -, -, hregs, hctl⟩ := units_rest (s.setWait 0)
  obtain ⟨hmem, hie⟩ := units_mem_enabled (s.setWait 0)
  have hidle := step_idle hfatal hwait hstopped hhalted (anyEligible_of_enabled_zero henabled)
  refine ⟨_, hidle, ?_, hregs, hmem, hcart, hctl⟩
  rw [quiescentHalt_iff, hctl, hie]
  exact ⟨hfatal, Nat.zero_le 1, hhalted, henabled, hstopped⟩

end

section
/-! The registers an instruction writes (40_load.md-45_system.md): each write of a register names what it changes, PC
and F apart, and every form writes the registers of its row only. -/

namespace Sys2Proof.Machine

variable {ns : List RegName} {s t u v : State} {sh : Shape}

/-- `t` has the registers of `s` but for those named, and PC and F. -/
def keepsOthers (ns : List RegName) (s t : State) : Prop := ∀ r ∉ ns, t.regValue r = s.regValue r

/-! ### The writes of a register -/

theorem keepsOthers_same (h : t.regs = s.regs) : keepsOthers ns s t := by
  intro r _
  cases r with
  | gp r => simp only [State.regValue, State.reg, h]
  | sp => exact congrArg Regs.sp h

theorem keepsOthers_refl (s : State) : keepsOthers ns s s := keepsOthers_same rfl

theorem keepsOthers.trans (h : keepsOthers ns s t) (h' : keepsOthers ns t u) : keepsOthers ns s u :=
  fun r hr => (h' r hr).trans (h r hr)

/-- A write of PC or F is not seen. -/
theorem keepsOthers.setPc (h : keepsOthers ns s t) (w : Word) : keepsOthers ns s (t.setPc w) := h.trans (fun _ _ => rfl)

theorem keepsOthers.setFlags (h : keepsOthers ns s t) (f : Flags) : keepsOthers ns s (t.setFlags f) :=
  h.trans (fun _ _ => rfl)

theorem keepsOthers.cons {n : RegName} (h : keepsOthers [n] s t) (h' : keepsOthers ns t u) :
    keepsOthers (n :: ns) s u := by
  intro r hr
  obtain ⟨hne, hns⟩ := not_or.1 (mt List.mem_cons.2 hr)
  exact (h' r hns).trans (h r (mt List.mem_singleton.1 hne))

theorem keepsOthers_setReg (s : State) (dst : Reg8) (x : Byte) : keepsOthers [.gp dst] s (s.setReg dst x) := by
  intro r hr
  cases r with
  | gp r =>
    have hne : r ≠ dst := fun e => hr (e ▸ List.mem_singleton_self _)
    simp only [State.regValue, State.reg_setReg, if_neg hne]
  | sp => exact State.setReg_sp s dst x

theorem keepsOthers_setSp (s : State) (w : Word) : keepsOthers [.sp] s (s.setSp w) := by
  intro r hr
  cases r with
  | gp r => rfl
  | sp => exact absurd (List.mem_singleton_self _) hr

/-! A pair is written as its two halves (R31). -/

theorem keepsOthers_setBc (s : State) (w : Word) : keepsOthers [.gp .b, .gp .c] s (s.setBc w) :=
  (keepsOthers_setReg s .b (hiByte w)).cons (keepsOthers_setReg _ .c (loByte w))

theorem keepsOthers_setDe (s : State) (w : Word) : keepsOthers [.gp .d, .gp .e] s (s.setDe w) :=
  (keepsOthers_setReg s .d (hiByte w)).cons (keepsOthers_setReg _ .e (loByte w))

theorem keepsOthers_setHl (s : State) (w : Word) : keepsOthers [.gp .h, .gp .l] s (s.setHl w) :=
  (keepsOthers_setReg s .h (hiByte w)).cons (keepsOthers_setReg _ .l (loByte w))

theorem keepsOthers_setAf (s : State) (w : Word) : keepsOthers [.gp .a] s (s.setAf w) :=
  (keepsOthers_setReg s .a (hiByte w)).trans (fun _ _ => rfl)

theorem keepsOthers_setPair (s : State) (p : Pair) (w : Word) : keepsOthers p.names s (s.setPair p w) := by
  cases p
  case bc => exact keepsOthers_setBc s w
  case de => exact keepsOthers_setDe s w
  case hl => exact keepsOthers_setHl s w
  case sp => exact keepsOthers_setSp s w

theorem keepsOthers_setStackPair (s : State) (p : StackPair) (w : Word) :
    keepsOthers p.names s (s.setStackPair p w) := by
  cases p
  case bc => exact keepsOthers_setBc s w
  case de => exact keepsOthers_setDe s w
  case hl => exact keepsOthers_setHl s w
  case af => exact keepsOthers_setAf s w

theorem keepsOthers_writeByte (s : State) (a : Word) (x : Byte) : keepsOthers ns s (writeByte s a x) :=
  keepsOthers_same (writeByte_regs s a x)

theorem keepsOthers_writeOperand (s : State) (o : Operand8) (x : Byte) :
    keepsOthers o.names s (writeOperand o x s) := by
  cases o with
  | reg r => exact keepsOthers_setReg s r x
  | memHL => exact keepsOthers_writeByte s s.hl x

theorem keepsOthers_push16 (s : State) (w : Word) : keepsOthers [.sp] s (push16 w s) := by
  refine (keepsOthers_setSp s (s.regs.sp - 2)).trans (keepsOthers_same ?_)
  rw [push16_regs]
  rfl

/-! ### The forms -/

/-- The fetch moves PC only, so a form writes what its operation writes after the fetch. -/
theorem keepsOthers_finish {n cost : Nat} (h : finish cost u = .next t) (hu : keepsOthers ns (s.fetched n) u) :
    keepsOthers ns s t := by
  cases h
  exact hu

theorem keepsOthers_finish_if {n : Nat} {b : Bool} {taken notTaken : Nat}
    (h : (if b then finish taken u else finish notTaken (s.fetched n)) = .next t)
    (hu : keepsOthers ns (s.fetched n) u) : keepsOthers ns s t := by
  split_ifs at h
  · exact keepsOthers_finish h hu
  · exact keepsOthers_finish h (keepsOthers_refl _)

/-- An ALU operation writes A, but for CP, whose result is A as it was (R247). -/
theorem keepsOthers_alu (s : State) (op : AluOp) (x : Byte) (k : Bool) :
    keepsOthers (if op = .cp then [] else [.gp .a]) s (s.setAcc (aluOut op (s.reg .a) x k)) := by
  cases op
  case cp => exact (keepsOthers_same (t := s.setReg .a (s.reg .a)) rfl).setFlags _
  all_goals exact (keepsOthers_setReg s .a _).setFlags _

theorem keepsOthers_stop (h : stop s = .next t) : keepsOthers ns s t := by
  cases hm : s.params.stopMode
  · cases (stop_fault s hm).symm.trans h
    exact fun _ _ => rfl
  · exact keepsOthers_finish ((stop_nop2 s hm).symm.trans h) (keepsOthers_refl _)
  · exact keepsOthers_finish (n := 2) ((stop_halt s hm).symm.trans h)
      (keepsOthers_writeByte ((s.fetched 2).setStopped true) _ _)

/-- Every form writes the registers of its row only. -/
theorem run_keepsOthers (h : sh.run s = .next t) : keepsOthers sh.regsWritten s t := by
  cases sh
  case nop => exact keepsOthers_finish h (keepsOthers_refl _)
  case illegal => cases h; exact fun _ _ => rfl
  case halt => exact keepsOthers_finish h (keepsOthers_same (haltState_regs _))
  case stop => exact keepsOthers_stop h
  case disableInts | enableInts => exact keepsOthers_finish (n := 1) h (keepsOthers_same rfl)
  case setCarry | complementCarry | cbBit => exact keepsOthers_finish h ((keepsOthers_refl _).setFlags _)
  case jumpAbs | jumpHl | jumpRel => exact keepsOthers_finish h ((keepsOthers_refl _).setPc _)
  case jumpAbsIf | jumpRelIf => exact keepsOthers_finish_if h ((keepsOthers_refl _).setPc _)
  case storeMemReg | storeMemImm | storeAccAbs | storeAccInd | storeHigh | storeHighC =>
    exact keepsOthers_finish h (keepsOthers_writeByte _ _ _)
  case incMem | decMem => exact keepsOthers_finish h ((keepsOthers_writeByte _ _ _).setFlags _)
  case storeSpAbs => exact keepsOthers_finish h ((keepsOthers_writeByte _ _ _).trans (keepsOthers_writeByte _ _ _))
  case loadReg | loadRegImm | loadRegMem | loadAccAbs | loadAccInd | loadHigh | loadHighC =>
    exact keepsOthers_finish h (keepsOthers_setReg _ _ _)
  case incReg | decReg | decimalAdjust | complementAcc | rotAcc =>
    exact keepsOthers_finish h ((keepsOthers_setReg _ _ _).setFlags _)
  case aluReg | aluMem | aluImm => exact keepsOthers_finish h (keepsOthers_alu _ _ _ _)
  case storeAccStep => exact keepsOthers_finish h ((keepsOthers_writeByte _ _ _).trans (keepsOthers_setHl _ _))
  case loadAccStep => exact keepsOthers_finish h ((keepsOthers_setReg _ _ _).cons (keepsOthers_setHl _ _))
  case addHl | loadHlSpDisp => exact keepsOthers_finish h ((keepsOthers_setHl _ _).setFlags _)
  case loadPairImm | incPair | decPair => exact keepsOthers_finish h (keepsOthers_setPair _ _ _)
  case loadSpHl => exact keepsOthers_finish h (keepsOthers_setSp _ _)
  case addSpDisp => exact keepsOthers_finish h ((keepsOthers_setSp _ _).setFlags _)
  case popPair => exact keepsOthers_finish h ((keepsOthers_setSp _ _).cons (keepsOthers_setStackPair _ _ _))
  case pushPair => exact keepsOthers_finish h (keepsOthers_push16 _ _)
  case callAbs | restart => exact keepsOthers_finish h ((keepsOthers_push16 _ _).setPc _)
  case callAbsIf => exact keepsOthers_finish_if h ((keepsOthers_push16 _ _).setPc _)
  case ret => exact keepsOthers_finish h ((keepsOthers_setSp _ _).setPc _)
  case reti => exact keepsOthers_finish h (((keepsOthers_setSp _ _).setPc _).trans (keepsOthers_same rfl))
  case retIf => exact keepsOthers_finish_if h ((keepsOthers_setSp _ _).setPc _)
  case cbRot => exact keepsOthers_finish h ((keepsOthers_writeOperand _ _ _).setFlags _)
  case cbRes | cbSet => exact keepsOthers_finish h (keepsOthers_writeOperand _ _ _)

end Sys2Proof.Machine

open Sys2Proof Sys2Proof.Machine

/-- Settles O8: form by form, each write names the registers it changes. -/
theorem onlyDestinationRegistersChange : Obligations.OnlyDestinationRegistersChange :=
  fun i s _ r hexec hr => run_keepsOthers (exec_eq_run i s ▸ hexec) r hr

end

section
/-! The timer's dot in its three cases (61_timer.md R440-R442), and the periods of DIV and TIMA (R449, R552). -/

namespace Sys2Proof.Machine

variable {s : State}

/-! ### The fields of TAC -/

theorem timerEnabled_eq (t : Timer) : timerEnabled t = decide (4 ≤ t.tac.toNat) := by
  have henabled : ∀ c : BitVec 3, c.getLsbD 2 = decide (4 ≤ c.toNat) := by decide
  exact henabled t.tac

/-- R441: the threshold of TAC[1:0]. -/
theorem timerThreshold_timerRate (t : Timer) : timerThreshold (timerRate t) =
    if t.tac.toNat % 4 = 0 then 1024 else if t.tac.toNat % 4 = 1 then 16 else if t.tac.toNat % 4 = 2 then 64
      else 256 := by
  have hthreshold : ∀ c : BitVec 3, timerThreshold (field c 0 2) =
      if c.toNat % 4 = 0 then 1024 else if c.toNat % 4 = 1 then 16 else if c.toNat % 4 = 2 then 64 else 256 := by
    decide
  exact hthreshold t.tac

/-! ### The three cases of a dot -/

theorem timerDot_disabled (he : timerEnabled s.timer = false) :
    timerDot s = { s with timer := { s.timer with div16 := s.timer.div16 + 1 } } := by
  simp [timerDot, timerOverflows, timerNext, timerFires, he]

theorem timerDot_counts (he : timerEnabled s.timer = true)
    (h : s.timer.tacc + 1 < timerThreshold (timerRate s.timer)) :
    timerDot s = { s with timer := { s.timer with div16 := s.timer.div16 + 1, tacc := s.timer.tacc + 1 } } := by
  have hfires : timerFires s.timer = false := by simp [timerFires, h]
  simp [timerDot, timerOverflows, timerNext, he, hfires]

/-- R442: the dot that reaches the threshold. -/
theorem timerDot_fires (he : timerEnabled s.timer = true)
    (h : timerThreshold (timerRate s.timer) ≤ s.timer.tacc + 1) :
    timerDot s =
      { s with
        timer := { s.timer with div16 := s.timer.div16 + 1, tacc := 0, tima := timaNext s.timer }
        intr := { s.intr with
          pending := if s.timer.tima = 0xFF then s.intr.pending ||| 0b00100 else s.intr.pending } } := by
  have hfires : timerFires s.timer = true := by simp [timerFires, he, h]
  have hnext : timerNext s.timer =
      { s.timer with div16 := s.timer.div16 + 1, tacc := 0, tima := timaNext s.timer } := by
    simp [timerNext, he, hfires]
  unfold timerDot timerOverflows
  rw [hfires, hnext, Bool.true_and]
  by_cases htima : s.timer.tima = 0xFF
  · rw [decide_eq_true htima, if_pos htima]
    rfl
  · rw [decide_eq_false htima, if_neg htima]
    rfl

theorem toNat_timaNext {t : Timer} (h : t.tima ≠ 0xFF) : (timaNext t).toNat = t.tima.toNat + 1 := by
  have hlt := t.tima.isLt
  have hne : t.tima.toNat ≠ 255 := fun e => h (BitVec.eq_of_toNat_eq e)
  rw [timaNext, if_neg h, BitVec.toNat_add]
  exact Nat.mod_eq_of_lt (show t.tima.toNat + 1 < 256 by omega)

/-- A timer dot leaves TMA, TAC, IE and everything outside the timer and the interrupt controller. -/
theorem timerDot_frame (s : State) :
    timerDot s = { s with timer := (timerDot s).timer, intr := (timerDot s).intr } ∧
    (timerDot s).intr.enabled = s.intr.enabled ∧ (timerDot s).intr.ieHi = s.intr.ieHi ∧
    (timerDot s).timer.tma = s.timer.tma ∧ (timerDot s).timer.tac = s.timer.tac := by
  rw [timerDot_eq]
  exact ⟨rfl, rfl, rfl, rfl, rfl⟩

theorem timerDot_div16 (s : State) : (timerDot s).timer.div16 = s.timer.div16 + 1 := by
  rw [timerDot_eq]
  rfl

/-! ### Periods -/

theorem timerDot_iterate_div16 (s : State) (n : Nat) :
    (timerDot^[n] s).timer.div16 = s.timer.div16 + BitVec.ofNat 16 n := by
  induction n with
  | zero => simp
  | succ n ih => rw [Function.iterate_succ_apply', timerDot_div16, ih, BitVec.add_assoc, BitVec.ofNat_add]; rfl

/-- DIV is the divider's high byte (R444). -/
theorem toNat_readByte_div (s : State) : (readByte s 0xFF04).toNat = s.timer.div16.toNat / 256 := by
  have hread : readByte s 0xFF04 = hiByte s.timer.div16 := readByte_io s (by decide) (by decide)
  rw [hread, toNat_hiByte]

/-- Before the threshold only the divider and the accumulator move. -/
theorem timerDot_iterate_counts (he : timerEnabled s.timer = true) {j : Nat}
    (hj : s.timer.tacc + j < timerThreshold (timerRate s.timer)) :
    timerDot^[j] s = { s with
      timer := { s.timer with div16 := s.timer.div16 + BitVec.ofNat 16 j, tacc := s.timer.tacc + j } } := by
  induction j with
  | zero =>
    rw [BitVec.add_zero]
    rfl
  | succ j ih =>
    rw [Function.iterate_succ_apply', ih (Nat.lt_of_succ_lt hj),
      timerDot_counts (s := { s with timer := { s.timer with div16 := _, tacc := s.timer.tacc + j } }) he hj]
    dsimp only
    rw [BitVec.add_assoc, BitVec.ofNat_add]
    rfl

/-- From an accumulator of 0 the threshold's dot is the first to fire. -/
theorem timerDot_iterate_threshold (he : timerEnabled s.timer = true) (h0 : s.timer.tacc = 0) {n : Nat}
    (hn : timerThreshold (timerRate s.timer) = n + 1) : timerDot^[n + 1] s =
      { s with
        timer := { s.timer with
          div16 := s.timer.div16 + BitVec.ofNat 16 n + 1, tacc := 0, tima := timaNext s.timer }
        intr := { s.intr with
          pending := if s.timer.tima = 0xFF then s.intr.pending ||| 0b00100 else s.intr.pending } } := by
  have hreached : timerThreshold (timerRate s.timer) ≤ s.timer.tacc + n + 1 := by omega
  rw [Function.iterate_succ_apply', timerDot_iterate_counts he (by omega),
    timerDot_fires (s := { s with timer := { s.timer with div16 := _, tacc := s.timer.tacc + n } }) he hreached]
  rfl

end Sys2Proof.Machine

open Sys2Proof Sys2Proof.Machine

/-- Settles O41: the three cases of a timer dot, told apart by TAC[2] and the threshold. -/
theorem timerDot : Obligations.TimerDot := by
  intro s t thr
  have hthr : timerThreshold (timerRate s.timer) = thr := timerThreshold_timerRate s.timer
  have henabled (h : 4 ≤ s.timer.tac.toNat) : timerEnabled s.timer = true := by
    rw [timerEnabled_eq, decide_eq_true h]
  have hdiv : t.timer.div16.toNat = (s.timer.div16.toNat + 1) % 65536 := by
    rw [timerDot_div16, BitVec.toNat_add]
    rfl
  obtain ⟨hrest, hie, hieHi, htma, htac⟩ := timerDot_frame s
  refine ⟨hrest, hie, hieHi, htma, htac, hdiv, fun hoff => ?off, fun hon hbelow => ?counts,
    fun hon hreached hne => ?fires, fun hon hreached hmax => ?overflows⟩
  case off =>
    have ht : t = _ := timerDot_disabled (by rw [timerEnabled_eq, decide_eq_false (by omega)])
    rw [ht]
    exact ⟨rfl, rfl, rfl⟩
  case counts =>
    have ht : t = _ := timerDot_counts (henabled hon) (hthr ▸ hbelow)
    rw [ht]
    exact ⟨rfl, rfl, rfl⟩
  case fires =>
    have ht : t = _ := timerDot_fires (henabled hon) (hthr ▸ hreached)
    rw [ht, if_neg hne]
    exact ⟨rfl, toNat_timaNext hne, rfl⟩
  case overflows =>
    have ht : t = _ := timerDot_fires (henabled hon) (hthr ▸ hreached)
    rw [ht, if_pos hmax]
    exact ⟨rfl, if_pos hmax, rfl⟩

/-- Settles O42: the divider counts every dot, the accumulator every dot below the threshold, and the threshold's dot
fires. -/
theorem dividerAndCounterPeriods : Obligations.DividerAndCounterPeriods := by
  intro s thr
  have hthr : timerThreshold (timerRate s.timer) = thr := timerThreshold_timerRate s.timer
  refine ⟨?div, fun hon h0 => ?counter⟩
  case div =>
    have hlt := s.timer.div16.isLt
    rw [toNat_readByte_div, toNat_readByte_div, timerDot_iterate_div16, BitVec.toNat_add, BitVec.toNat_ofNat]
    omega
  case counter =>
    have he : timerEnabled s.timer = true := by rw [timerEnabled_eq, decide_eq_true hon]
    obtain ⟨n, hn⟩ : ∃ n, thr = n + 1 :=
      Nat.exists_eq_add_one_of_ne_zero (hthr ▸ (timerThreshold_pos (timerRate s.timer)).ne')
    refine ⟨fun j hj => ?before, ?reached⟩
    case before =>
      rw [timerDot_iterate_counts he (by omega), h0, Nat.zero_add]
      exact ⟨rfl, rfl, rfl⟩
    case reached =>
      rw [hn, timerDot_iterate_threshold he h0 (hthr.trans hn)]
      exact ⟨rfl, rfl, rfl⟩

end

section
/-! One dot of the PPU, case by case (62_ppu.md R470-R475, R480, R481, R486): inside a mode, at the end of each mode,
and with the LCD switched off or on. -/

namespace Sys2Proof.Machine

variable {s : State}

/-! ### Requests as masks of IF -/

/-- IF with the bits of a mask requested (R412). -/
def Intr.requesting (i : Intr) (m : BitVec 5) : Intr := { i with pending := i.pending ||| m }

/-- The request of STAT source `i`, if it is enabled (R480). -/
def statMask (p : Ppu) (i : Nat) : BitVec 5 := if p.statEn.getLsbD i then 0b00010 else 0

/-- The request of the coincidence source when LY becomes `n` (R481). -/
def lycMask (p : Ppu) (n : Nat) : BitVec 5 := if p.lyc.toNat = n then statMask p 3 else 0

theorem Intr.requesting_requesting (i : Intr) (m n : BitVec 5) :
    (i.requesting m).requesting n = i.requesting (m ||| n) := by
  simp only [Intr.requesting, BitVec.or_assoc]

theorem statRequest_eq_requesting (i : Nat) (s : State) :
    statRequest i s = { s with intr := s.intr.requesting (statMask s.ppu i) } := statRequest_eq i s

/-- A new line and its coincidence (R481). -/
theorem updateLyc_setLy (n : Nat) (s : State) : updateLyc (setLy n s) =
    { s with ppu := { s.ppu with ly := n, statLyc := decide (n = s.ppu.lyc.toNat) }
             intr := s.intr.requesting (lycMask s.ppu n) } := by
  have hmask : (if n = s.ppu.lyc.toNat ∧ s.ppu.statEn.getLsbD 3 = true then (0b00010 : BitVec 5) else 0) =
      lycMask s.ppu n := by
    simp only [lycMask, statMask, ite_and, eq_comm (a := n)]
  rw [updateLyc_eq, ← hmask]
  rfl

/-! ### The ends of the modes -/

theorem endPixelTransfer_eq (s : State) : endPixelTransfer s =
    { s with ppu := { s.ppu with mode := .hblank, modeDot := 0 }
             intr := s.intr.requesting (statMask s.ppu 0) } := statRequest_eq_requesting 0 _

theorem endHblank_nextLine (h : s.ppu.ly + 1 ≠ 144) : endHblank s =
    { s with ppu := { s.ppu with mode := .oamSearch, modeDot := 0, ly := s.ppu.ly + 1, composed := false
                                 statLyc := decide (s.ppu.ly + 1 = s.ppu.lyc.toNat) }
             intr := s.intr.requesting (lycMask s.ppu (s.ppu.ly + 1) ||| statMask s.ppu 2) } := by
  unfold endHblank
  rw [updateLyc_setLy]
  dsimp only
  rw [if_neg (show ¬s.ppu.ly + 1 = visibleLines from h), statRequest_eq_requesting, ← Intr.requesting_requesting]
  rfl

theorem endHblank_vblank (h : s.ppu.ly + 1 = 144) : endHblank s =
    { s with ppu := { s.ppu with mode := .vblank, modeDot := 0, ly := 144
                                 statLyc := decide (144 = s.ppu.lyc.toNat) }
             intr := s.intr.requesting (lycMask s.ppu 144 ||| 0b00001 ||| statMask s.ppu 1) } := by
  unfold endHblank
  rw [updateLyc_setLy, h]
  dsimp only
  rw [if_pos (show 144 = visibleLines from rfl), statRequest_eq_requesting, ← Intr.requesting_requesting,
    ← Intr.requesting_requesting]
  rfl

theorem endVblankLine_nextLine (hm : s.ppu.mode = .vblank) (h : s.ppu.ly ≠ 153) : endVblankLine s =
    { s with ppu := { s.ppu with modeDot := 0, ly := s.ppu.ly + 1
                                 statLyc := decide (s.ppu.ly + 1 = s.ppu.lyc.toNat) }
             intr := s.intr.requesting (lycMask s.ppu (s.ppu.ly + 1)) } := by
  unfold endVblankLine
  rw [if_neg (show ¬s.ppu.ly = lastLine from h), updateLyc_setLy, ← hm]
  rfl

theorem endVblankLine_lastLine (h : s.ppu.ly = 153) : endVblankLine s =
    { s with ppu := { s.ppu with mode := .oamSearch, modeDot := 0, ly := 0, composed := false
                                 statLyc := decide (0 = s.ppu.lyc.toNat) }
             intr := s.intr.requesting (lycMask s.ppu 0 ||| statMask s.ppu 2) } := by
  unfold endVblankLine
  rw [if_pos (show s.ppu.ly = lastLine from h), updateLyc_setLy, statRequest_eq_requesting,
    ← Intr.requesting_requesting]
  rfl

/-! ### One dot of the enabled PPU -/

section Enabled

variable (hon : s.ppu.lcdc.getLsbD 7 = true) (hseen : s.ppu.lcdOffSeen = false)
include hon hseen

theorem ppuDot_inside (h : s.ppu.modeDot + 1 ≠ modeLength s.ppu.mode) :
    ppuDot s = { s with ppu := { s.ppu with modeDot := s.ppu.modeDot + 1 } } :=
  (ppuDot_on hon hseen).trans (modeTick_inside h)

theorem ppuDot_end (h : s.ppu.modeDot + 1 = modeLength s.ppu.mode) :
    ppuDot s = endMode { s with ppu := { s.ppu with modeDot := s.ppu.modeDot + 1 } } :=
  (ppuDot_on hon hseen).trans (modeTick_end h)

theorem ppuDot_endOamSearch (hm : s.ppu.mode = .oamSearch) (hd : s.ppu.modeDot = 79) : ppuDot s =
    { s with ppu := { s.ppu with mode := .pixelTransfer, modeDot := 0, composed := true }
             pixels := if s.ppu.composed then s.pixels else (composeLine s.ppu.ly s).pixels } := by
  have hdot := (ppuDot_end hon hseen (by rw [hm, hd]; rfl)).trans (endMode_oamSearch hm)
  rw [endOamSearch_eq, linePixels_modeDot] at hdot
  exact hdot

theorem ppuDot_endPixelTransfer (hm : s.ppu.mode = .pixelTransfer) (hd : s.ppu.modeDot = 171) : ppuDot s =
    { s with ppu := { s.ppu with mode := .hblank, modeDot := 0 }
             intr := s.intr.requesting (statMask s.ppu 0) } := by
  have hdot := (ppuDot_end hon hseen (by rw [hm, hd]; rfl)).trans (endMode_pixelTransfer hm)
  exact hdot.trans (endPixelTransfer_eq _)

theorem ppuDot_endHblank (hm : s.ppu.mode = .hblank) (hd : s.ppu.modeDot = 203) :
    ppuDot s = endHblank { s with ppu := { s.ppu with modeDot := s.ppu.modeDot + 1 } } :=
  (ppuDot_end hon hseen (by rw [hm, hd]; rfl)).trans (endMode_hblank hm)

theorem ppuDot_endVblankLine (hm : s.ppu.mode = .vblank) (hd : s.ppu.modeDot = 455) :
    ppuDot s = endVblankLine { s with ppu := { s.ppu with modeDot := s.ppu.modeDot + 1 } } :=
  (ppuDot_end hon hseen (by rw [hm, hd]; rfl)).trans (endMode_vblank hm)

end Enabled

theorem modeLength_of_mem {m : PpuMode} {len : Nat}
    (h : (m, len) ∈ [(PpuMode.oamSearch, 80), (.pixelTransfer, 172), (.hblank, 204), (.vblank, 456)]) :
    modeLength m = len := by
  simp only [List.mem_cons, Prod.mk.injEq, List.not_mem_nil, or_false] at h
  rcases h with ⟨rfl, rfl⟩ | ⟨rfl, rfl⟩ | ⟨rfl, rfl⟩ | ⟨rfl, rfl⟩ <;> rfl

/-! ### The LCD off and on -/

theorem ppuDot_off (h : s.ppu.lcdc.getLsbD 7 = false) : ppuDot s = lcdOffDot s :=
  if_neg fun hon => Bool.false_ne_true (h.symm.trans hon)

theorem ppuDot_restart (h : s.ppu.lcdc.getLsbD 7 = true) (hseen : s.ppu.lcdOffSeen = true) :
    ppuDot s = modeTick (lcdRestart s) := by
  unfold ppuDot
  rw [if_pos (show lcdOn s = true from h), if_pos hseen]

end Sys2Proof.Machine

open Sys2Proof Sys2Proof.Machine

/-- Settles O46: off, the dot is `lcd_off_dot()`; on again, it is a dot inside OAM-search after the restart. -/
theorem lcdOffAndOn : Obligations.LcdOffAndOn := by
  intro s
  refine ⟨fun hoff hseen => ?first, fun hoff hseen => ?later, fun hon hseen => ?restart⟩
  case first =>
    rw [ppuDot_off hoff]
    exact if_neg fun hs => Bool.false_ne_true (hseen.symm.trans hs)
  case later =>
    rw [ppuDot_off hoff]
    exact if_pos hseen
  case restart =>
    exact (ppuDot_restart hon hseen).trans (modeTick_inside (show 0 + 1 ≠ 80 by decide))

/-- Settles O43: one lemma for a dot inside a mode and for the end of each mode. -/
theorem modeTransitions : Obligations.ModeTransitions := by
  intro s hon hseen stat lyc req
  refine ⟨fun len hlen hdot => ?inside, ppuDot_endOamSearch hon hseen, ppuDot_endPixelTransfer hon hseen,
    fun hm hd hly => ?nextLine, fun hm hd hly => ?vblank, fun hm hd hly => ?vblankLine, fun hm hd hly => ?lastLine⟩
  case inside => exact ppuDot_inside hon hseen (modeLength_of_mem hlen ▸ hdot)
  case nextLine => exact (ppuDot_endHblank hon hseen hm hd).trans (endHblank_nextLine hly)
  case vblank => exact (ppuDot_endHblank hon hseen hm hd).trans (endHblank_vblank hly)
  case vblankLine => exact (ppuDot_endVblankLine hon hseen hm hd).trans (endVblankLine_nextLine hm hly)
  case lastLine => exact (ppuDot_endVblankLine hon hseen hm hd).trans (endVblankLine_lastLine hly)

end

section
/-! The PPU's timeline (62_ppu.md R471, R476, R477): a mode runs for its length, a visible line is three modes, a frame
is 144 visible lines and 10 lines of v-blank. -/

namespace Sys2Proof.Machine

variable {s : State} {n : Nat}

/-! ### A mode -/

/-- The LCD runs, and the mode starts at line `n`. -/
structure ModeStart (m : PpuMode) (n : Nat) (s : State) : Prop where
  on : s.ppu.lcdc.getLsbD 7 = true
  seen : s.ppu.lcdOffSeen = false
  mode : s.ppu.mode = m
  dot : s.ppu.modeDot = 0
  line : s.ppu.ly = n

/-- `s` at a dot of its mode. -/
def State.atDot (s : State) (k : Nat) : State := { s with ppu := { s.ppu with modeDot := k } }

theorem State.atDot_self {k : Nat} (h : s.ppu.modeDot = k) : s.atDot k = s := by
  rw [← h]
  rfl

/-- Before a mode's length only the dot counter moves. -/
theorem ModeStart.iterate {m : PpuMode} (h : ModeStart m n s) {k : Nat} (hk : k < modeLength m) :
    ppuDot^[k] s = s.atDot k := by
  obtain ⟨hon, hseen, rfl, hdot, -⟩ := h
  induction k with
  | zero => exact (State.atDot_self hdot).symm
  | succ k ih =>
    rw [Function.iterate_succ_apply', ih (Nat.lt_of_succ_lt hk), ppuDot_inside (s := s.atDot k) hon hseen hk.ne]
    rfl

/-- After its length comes the dot that ends it. -/
theorem ModeStart.iterate_length {m : PpuMode} (h : ModeStart m n s) {k : Nat} (hk : k + 1 = modeLength m) :
    ppuDot^[k + 1] s = ppuDot (s.atDot k) := by
  rw [Function.iterate_succ_apply', h.iterate (by omega)]

/-! ### A visible line -/

/-- The state in dot 80 of a line: pixel-transfer begins, the line is composed (R472). -/
def transferStart (s : State) : State :=
  { s with ppu := { s.ppu with mode := .pixelTransfer, modeDot := 0, composed := true }
           pixels := (composeLine s.ppu.ly s).pixels }

/-- The state in dot 252 of a line: h-blank begins (R473). -/
def hblankStart (s : State) : State :=
  { transferStart s with
    ppu := { (transferStart s).ppu with mode := .hblank, modeDot := 0 }
    intr := s.intr.requesting (statMask s.ppu 0) }

/-- The start of line `n`. -/
structure LineStart (n : Nat) (s : State) : Prop extends ModeStart .oamSearch n s where
  fresh : s.ppu.composed = false

theorem LineStart.transfer (h : LineStart n s) : ModeStart .pixelTransfer n (transferStart s) :=
  ⟨h.on, h.seen, rfl, rfl, h.line⟩

theorem LineStart.hblank (h : LineStart n s) : ModeStart .hblank n (hblankStart s) :=
  ⟨h.on, h.seen, rfl, rfl, h.line⟩

theorem LineStart.dot80 (h : LineStart n s) : ppuDot^[80] s = transferStart s := by
  have hdot := ppuDot_endOamSearch (s := s.atDot 79) h.on h.seen h.mode rfl
  have hfresh : ¬(s.atDot 79).ppu.composed = true := fun hc => Bool.false_ne_true (h.fresh.symm.trans hc)
  rw [if_neg hfresh, composeLine_pixels, State.atDot, linePixels_modeDot] at hdot
  exact (h.iterate_length (k := 79) rfl).trans hdot

theorem LineStart.dot252 (h : LineStart n s) : ppuDot^[252] s = hblankStart s := by
  rw [Function.iterate_add_apply _ 172 80, h.dot80, h.transfer.iterate_length (k := 171) rfl]
  exact ppuDot_endPixelTransfer (s := (transferStart s).atDot 171) h.on h.seen rfl rfl

theorem LineStart.dot456 (h : LineStart n s) : ppuDot^[456] s = endHblank ((hblankStart s).atDot 204) := by
  rw [Function.iterate_add_apply _ 204 252, h.dot252, h.hblank.iterate_length (k := 203) rfl]
  exact ppuDot_endHblank (s := (hblankStart s).atDot 203) h.on h.seen rfl rfl

/-- Where a line stands in its first 456 dots (R477). -/
theorem LineStart.timeline (h : LineStart n s) {k : Nat} (hk : k < 456) :
    (k < 80 ∧ ppuDot^[k] s = s.atDot k) ∨
    (80 ≤ k ∧ k < 252 ∧ ppuDot^[k] s = (transferStart s).atDot (k - 80)) ∨
    (252 ≤ k ∧ ppuDot^[k] s = (hblankStart s).atDot (k - 252)) := by
  rcases Nat.lt_or_ge k 80 with h80 | h80
  · exact .inl ⟨h80, h.iterate h80⟩
  rcases Nat.lt_or_ge k 252 with h252 | h252
  · refine .inr (.inl ⟨h80, h252, ?_⟩)
    obtain ⟨j, rfl⟩ := Nat.exists_eq_add_of_le' h80
    rw [Function.iterate_add_apply, h.dot80, h.transfer.iterate (by show j < 172; omega), Nat.add_sub_cancel]
  · refine .inr (.inr ⟨h252, ?_⟩)
    obtain ⟨j, rfl⟩ := Nat.exists_eq_add_of_le' h252
    rw [Function.iterate_add_apply, h.dot252, h.hblank.iterate (by show j < 204; omega), Nat.add_sub_cancel]

/-- Dot 456 of a line but the last visible one begins the next line. -/
theorem LineStart.dot456_nextLine (h : LineStart n s) (hn : n + 1 ≠ 144) : ppuDot^[456] s =
    { hblankStart s with
      ppu := { (hblankStart s).ppu with mode := .oamSearch, modeDot := 0, ly := n + 1, composed := false
                                        statLyc := decide (n + 1 = s.ppu.lyc.toNat) }
      intr := (hblankStart s).intr.requesting (lycMask s.ppu (n + 1) ||| statMask s.ppu 2) } := by
  obtain rfl := h.line
  rw [h.dot456, endHblank_nextLine (s := (hblankStart s).atDot 204) hn]
  rfl

/-- Dot 456 of line 143 begins v-blank and requests its interrupt (R474). -/
theorem LineStart.dot456_vblank (h : LineStart 143 s) : ppuDot^[456] s =
    { hblankStart s with
      ppu := { (hblankStart s).ppu with mode := .vblank, modeDot := 0, ly := 144
                                        statLyc := decide (144 = s.ppu.lyc.toNat) }
      intr := (hblankStart s).intr.requesting (lycMask s.ppu 144 ||| 0b00001 ||| statMask s.ppu 1) } := by
  rw [h.dot456, endHblank_vblank (s := (hblankStart s).atDot 204) (congrArg (· + 1) h.line)]
  rfl

/-! ### IF bit 0 -/

theorem requesting_bit0 (i : Intr) (m : BitVec 5) :
    (i.requesting m).pending.getLsbD 0 = (i.pending.getLsbD 0 || m.getLsbD 0) := BitVec.getLsbD_or

theorem statMask_bit0 (p : Ppu) (i : Nat) : (statMask p i).getLsbD 0 = false := by
  unfold statMask
  split <;> rfl

theorem lycMask_bit0 (p : Ppu) (n : Nat) : (lycMask p n).getLsbD 0 = false := by
  unfold lycMask
  split
  · exact statMask_bit0 p 3
  · rfl

theorem hblankStart_bit0 (s : State) :
    (hblankStart s).intr.pending.getLsbD 0 = s.intr.pending.getLsbD 0 := by
  refine (requesting_bit0 s.intr (statMask s.ppu 0)).trans ?_
  rw [statMask_bit0, Bool.or_false]

/-- No dot inside a line touches IF bit 0. -/
theorem LineStart.bit0 (h : LineStart n s) {k : Nat} (hk : k < 456) :
    (ppuDot^[k] s).intr.pending.getLsbD 0 = s.intr.pending.getLsbD 0 := by
  rcases h.timeline hk with ⟨-, e⟩ | ⟨-, -, e⟩ | ⟨-, e⟩
  · rw [e]
    rfl
  · rw [e]
    rfl
  · rw [e]
    exact hblankStart_bit0 s

/-- No dot of the PPU clears a pending bit. -/
theorem ppuDot_iterate_keeps_pending {k : Nat} (j : Nat) (h : s.intr.pending.getLsbD k = true) :
    (ppuDot^[j] s).intr.pending.getLsbD k = true := by
  induction j with
  | zero => exact h
  | succ j ih =>
    obtain ⟨m, -, hm⟩ := (ppuFrame_ppuDot (ppuDot^[j] s)).pending
    rw [Function.iterate_succ_apply', hm, BitVec.getLsbD_or, ih, Bool.true_or]

/-! ### A frame -/

theorem LineStart.next (h : LineStart n s) (hn : n + 1 ≠ 144) : LineStart (n + 1) (ppuDot^[456] s) ∧
    (ppuDot^[456] s).intr.pending.getLsbD 0 = s.intr.pending.getLsbD 0 := by
  rw [h.dot456_nextLine hn]
  refine ⟨⟨⟨h.on, h.seen, rfl, rfl, rfl⟩, rfl⟩, ?_⟩
  rw [requesting_bit0, BitVec.getLsbD_or, lycMask_bit0, statMask_bit0, hblankStart_bit0]
  simp

theorem LineStart.vblank (h : LineStart 143 s) : ModeStart .vblank 144 (ppuDot^[456] s) ∧
    (ppuDot^[456] s).intr.pending.getLsbD 0 = true := by
  rw [h.dot456_vblank]
  refine ⟨⟨h.on, h.seen, rfl, rfl, rfl⟩, ?_⟩
  rw [requesting_bit0, BitVec.getLsbD_or, BitVec.getLsbD_or, lycMask_bit0, statMask_bit0]
  simp

/-- The visible lines of a frame, by induction over them. -/
theorem LineStart.visibleLine (h : LineStart 0 s) {n : Nat} (hn : n < 144) : LineStart n (ppuDot^[456 * n] s) ∧
    (ppuDot^[456 * n] s).intr.pending.getLsbD 0 = s.intr.pending.getLsbD 0 := by
  induction n with
  | zero => exact ⟨h, rfl⟩
  | succ n ih =>
    obtain ⟨hline, hbit⟩ := ih (Nat.lt_of_succ_lt hn)
    rw [Nat.mul_succ, Nat.add_comm (456 * n), Function.iterate_add_apply]
    obtain ⟨hnext, hbit'⟩ := hline.next hn.ne
    exact ⟨hnext, hbit'.trans hbit⟩

theorem ModeStart.vblank_dot456 (h : ModeStart .vblank n s) : ppuDot^[456] s = endVblankLine (s.atDot 456) :=
  (h.iterate_length (k := 455) rfl).trans (ppuDot_endVblankLine (s := s.atDot 455) h.on h.seen h.mode rfl)

/-- A line of v-blank but the last is followed by the next one (R475). -/
theorem ModeStart.vblank_next (h : ModeStart .vblank n s) (hn : n ≠ 153) :
    ModeStart .vblank (n + 1) (ppuDot^[456] s) := by
  obtain rfl := h.line
  rw [h.vblank_dot456, endVblankLine_nextLine (s := s.atDot 456) h.mode hn]
  exact ⟨h.on, h.seen, h.mode, rfl, rfl⟩

/-- Line 153 is followed by line 0. -/
theorem ModeStart.vblank_last (h : ModeStart .vblank 153 s) : LineStart 0 (ppuDot^[456] s) := by
  rw [h.vblank_dot456, endVblankLine_lastLine (s := s.atDot 456) h.line]
  exact ⟨⟨h.on, h.seen, rfl, rfl, rfl⟩, rfl⟩

/-- The lines of v-blank, by induction over them. -/
theorem ModeStart.vblankLine (h : ModeStart .vblank 144 s) {i : Nat} (hi : i < 10) :
    ModeStart .vblank (144 + i) (ppuDot^[456 * i] s) := by
  induction i with
  | zero => exact h
  | succ i ih =>
    rw [Nat.mul_succ, Nat.add_comm (456 * i), Function.iterate_add_apply]
    exact (ih (Nat.lt_of_succ_lt hi)).vblank_next (by omega)

/-- Ten lines of v-blank lead back to line 0. -/
theorem ModeStart.vblank_end (h : ModeStart .vblank 144 s) : LineStart 0 (ppuDot^[4560] s) := by
  rw [Function.iterate_add_apply _ 456 (456 * 9)]
  exact (h.vblankLine (i := 9) (by decide)).vblank_last

/-- V-blank begins in dot 65664 of a frame (R476). -/
theorem LineStart.frame_vblank (h : LineStart 0 s) : ModeStart .vblank 144 (ppuDot^[65664] s) ∧
    (ppuDot^[65664] s).intr.pending.getLsbD 0 = true := by
  rw [Function.iterate_add_apply _ 456 (456 * 143)]
  exact (h.visibleLine (n := 143) (by decide)).1.vblank

theorem LineStart.frame_bit0 (h : LineStart 0 s) {k : Nat} (hk : k < 65664) :
    (ppuDot^[k] s).intr.pending.getLsbD 0 = s.intr.pending.getLsbD 0 := by
  obtain ⟨hline, hbit⟩ := h.visibleLine (n := k / 456) (by omega)
  rw [← Nat.mod_add_div k 456, Function.iterate_add_apply]
  exact (hline.bit0 (Nat.mod_lt k (by decide))).trans hbit

end Sys2Proof.Machine

open Sys2Proof Sys2Proof.Machine

/-- Settles O44: the three modes of the line one after another, then the start of the next line or of v-blank. -/
theorem lineTimeline : Obligations.LineTimeline := by
  intro s n k hon hseen hmode hdot hfresh hline hn hk t
  have h : LineStart n s := ⟨⟨hon, hseen, hmode, hdot, hline⟩, hfresh⟩
  have hpixels : (composeLine s.ppu.ly s).pixels = (composeLine n s).pixels := by rw [hline]
  rcases hk.lt_or_eq with hlt | rfl
  · rcases h.timeline hlt with ⟨hk80, ht⟩ | ⟨hk80, hk252, ht⟩ | ⟨hk252, ht⟩
    all_goals
      rw [show t = _ from ht]
    · exact ⟨fun _ => ⟨hmode, rfl, hline, rfl⟩, by omega, by omega, by omega, by omega⟩
    · exact ⟨by omega, fun _ => hpixels, fun _ _ => ⟨rfl, rfl, hline⟩, by omega, by omega⟩
    · exact ⟨by omega, fun _ => hpixels, by omega, fun _ _ => ⟨rfl, rfl, hline⟩, by omega⟩
  · by_cases hlast : n = 143
    · subst hlast
      have ht : t = _ := h.dot456_vblank
      rw [ht]
      exact ⟨by omega, fun _ => hpixels, by omega, by omega, fun _ => ⟨rfl, rfl, rfl⟩⟩
    · have ht : t = _ := h.dot456_nextLine (by omega)
      rw [ht, if_neg hlast]
      exact ⟨by omega, fun _ => hpixels, by omega, by omega, fun _ => ⟨rfl, rfl, rfl⟩⟩

/-- Settles O45: 144 visible lines leave IF bit 0 until the last one's end sets it, and 10 lines of v-blank follow. -/
theorem frameOf70224Dots : Obligations.FrameOf70224Dots := by
  intro s hon hseen hmode hdot hfresh hline
  have h : LineStart 0 s := ⟨⟨hon, hseen, hmode, hdot, hline⟩, hfresh⟩
  obtain ⟨hvblank, hset⟩ := h.frame_vblank
  have hend : LineStart 0 (ppuDot^[70224] s) := by
    rw [Function.iterate_add_apply _ 4560 65664]
    exact hvblank.vblank_end
  refine ⟨fun k => h.frame_bit0, hvblank.line, hvblank.mode, fun k hk _ => ?set, hend.mode, hend.dot, hend.line,
    hend.fresh⟩
  case set =>
    obtain ⟨j, rfl⟩ := Nat.exists_eq_add_of_le' hk
    rw [Function.iterate_add_apply]
    exact ppuDot_iterate_keeps_pending j hset

end

section
/-! OAM DMA (62_ppu.md R500): the copy's source is not disturbed by the copy. -/

namespace Sys2Proof.Machine

variable {v : Byte} {i j n : Nat}

/-! ### OAM as the CPU reads it -/

theorem toNat_oamAddress (h : i < 160) : (BitVec.ofNat 16 (oamBase + i)).toNat = oamBase + i := by
  rw [BitVec.toNat_ofNat]
  exact Nat.mod_eq_of_lt (show 0xFE00 + i < 65536 by omega)

/-- A byte of OAM reads the cell of its address (R90). -/
theorem readByte_oam (s : State) (h : i < 160) :
    readByte s (BitVec.ofNat 16 (oamBase + i)) = Store.read s.mem (oamBase + i) := by
  have hnat := toNat_oamAddress h
  have hrange : 0xFE00 ≤ (BitVec.ofNat 16 (oamBase + i)).toNat ∧ (BitVec.ofNat 16 (oamBase + i)).toNat ≤ 0xFE9F := by
    rw [hnat]
    show 0xFE00 ≤ 0xFE00 + i ∧ 0xFE00 + i ≤ 0xFE9F
    omega
  have hcell : cellOf (BitVec.ofNat 16 (oamBase + i)) = oamBase + i := by
    unfold cellOf
    rw [hnat]
    exact if_neg (show ¬(0xE000 ≤ 0xFE00 + i ∧ 0xFE00 + i ≤ 0xFDFF) by omega)
  rw [readByte_plain s (isPlain_of_range (.inr (.inr (.inl hrange)))), hcell]

/-! ### The copy -/

/-- The address that byte `i` is copied from. -/
def dmaSource (v : Byte) (i : Nat) : Word := trunc16 (v.toNat * 256 + i)

/-- A source address that reads OAM is the destination itself (`v` = 0xFE). -/
theorem eq_of_cellOf_dmaSource (hi : i < 160) (hj : j < 160) (h : cellOf (dmaSource v i) = oamBase + j) : i = j := by
  have hv := v.isLt
  unfold cellOf dmaSource oamBase at h
  rw [toNat_trunc16] at h
  dsimp only at h
  split_ifs at h <;> omega

/-- No byte of the copy changes what a source address reads. -/
theorem readByte_dmaSource_oamDmaByte (s : State) (hi : i < 160) (hj : j < 160) :
    readByte (oamDmaByte v s j) (dmaSource v i) = readByte s (dmaSource v i) := by
  by_cases h : cellOf (dmaSource v i) = oamBase + j
  · obtain rfl := eq_of_cellOf_dmaSource hi hj h
    have hplain : (ownerOf false (dmaSource v i)).isPlain = true := by
      by_contra hn
      refine cellOf_of_oam (fun e => ?_) i hi h
      rw [e] at hn
      exact hn rfl
    rw [readByte_plain _ hplain, h]
    exact Store.read_write_same _ _ _
  · exact readByte_writeCell_ne s _ h

/-- The copy's first `n` bytes: OAM holds what the sources read, and the sources read as before. -/
theorem oamDma_firstBytes (v : Byte) (s : State) (hn : n ≤ 160) :
    (∀ i < n, Store.read ((List.range n).foldl (oamDmaByte v) s).mem (oamBase + i) = readByte s (dmaSource v i)) ∧
    ∀ i < 160, readByte ((List.range n).foldl (oamDmaByte v) s) (dmaSource v i) = readByte s (dmaSource v i) := by
  induction n with
  | zero => exact ⟨fun i hi => absurd hi (Nat.not_lt_zero i), fun i _ => rfl⟩
  | succ n ih =>
    obtain ⟨hcopied, hsource⟩ := ih (Nat.le_of_succ_le hn)
    rw [List.range_succ, List.foldl_concat]
    refine ⟨fun i hi => ?_, fun i hi => (readByte_dmaSource_oamDmaByte _ hi hn).trans (hsource i hi)⟩
    rcases Nat.lt_succ_iff_lt_or_eq.1 hi with hlt | rfl
    · exact (Store.read_write_ne _ _ (by omega)).trans (hcopied i hlt)
    · exact (Store.read_write_same _ _ _).trans (hsource i hn)

theorem read_oamDma (v : Byte) (s : State) (h : i < 160) :
    Store.read (oamDma v s).mem (oamBase + i) = readByte s (dmaSource v i) := (oamDma_firstBytes v s le_rfl).1 i h

theorem writeByte_dma (s : State) (v : Byte) :
    writeByte s 0xFF46 v = oamDma v { s with ppu := { s.ppu with dma := v } } :=
  writeByte_io s v (by decide) (by decide)

theorem storeReaches_dma {b : Word} (hne : b ≠ 0xFF46) (hoam : ¬(0xFE00 ≤ b.toNat ∧ b.toNat ≤ 0xFE9F)) :
    storeReaches 0xFF46 b = false := by
  have howner : ownerOf false b ≠ .oam := fun h => by
    obtain ⟨-, -, -, -, hrange, -⟩ := ownerOf_false_range b
    exact hoam (hrange h)
  have hreaches : storeReaches 0xFF46 b = (decide (b = 0xFF46) || decide (ownerOf false b = .oam)) := rfl
  rw [hreaches, decide_eq_false hne, decide_eq_false howner, Bool.or_false]

end Sys2Proof.Machine

open Sys2Proof Sys2Proof.Machine

/-- Settles O50: the write is the copy with DMA already holding `v`, and a DMA reaches OAM and its own register only. -/
theorem oamDmaCopies160Bytes : Obligations.OamDmaCopies160Bytes := by
  intro s v t
  have ht : t = oamDma v { s with ppu := { s.ppu with dma := v } } := writeByte_dma s v
  refine ⟨fun i hi => ?copied, ?register, fun b hne hoam => ?others, ?frame⟩
  case copied => exact (readByte_oam t hi).trans (ht ▸ read_oamDma v _ hi)
  case register => exact readByte_writeByte_stored s v (by decide)
  case others => exact readByte_writeByte_frame s 0xFF46 b v (storeReaches_dma hne hoam)
  case frame => rw [ht, oamDma_eq]

end

section
/-! The scanline composer (62_ppu.md R489-R497): the pixels of a line, the background and window, and the sprites, in
arithmetic on the registers, VRAM and OAM. -/

namespace Sys2Proof.Machine

variable {s : State} {x y : Nat}

/-! ### The pixels of a line -/

theorem pixelKey_inj {x x' y y' : Nat} (hx : x < 160) (hx' : x' < 160) (h : pixelKey x y = pixelKey x' y') :
    x = x' ∧ y = y' := by
  unfold pixelKey screenWidth at h
  omega

theorem foldl_pixels_read_ne (f : Nat → BitVec 2) {k : Nat} (xs : List Nat) (px : List (Nat × BitVec 2))
    (h : ∀ x ∈ xs, pixelKey x y ≠ k) :
    Store.read (xs.foldl (fun px x => Store.write px (pixelKey x y) (f x)) px) k = Store.read px k := by
  induction xs generalizing px with
  | nil => rfl
  | cons z xs ih =>
    rw [List.forall_mem_cons] at h
    rw [List.foldl_cons, ih _ h.2, Store.read_write_ne _ _ h.1.symm]

theorem foldl_pixels_read (f : Nat → BitVec 2) {xs : List Nat} (hxs : ∀ z ∈ xs, z < 160) (px : List (Nat × BitVec 2))
    (hx : x ∈ xs) :
    Store.read (xs.foldl (fun px x => Store.write px (pixelKey x y) (f x)) px) (pixelKey x y) = f x := by
  induction xs generalizing px with
  | nil => cases hx
  | cons z xs ih =>
    rw [List.foldl_cons]
    by_cases hmem : x ∈ xs
    · exact ih (fun z hz => hxs z (List.mem_cons_of_mem _ hz)) _ hmem
    · obtain rfl : x = z := (List.mem_cons.1 hx).resolve_right hmem
      have hne : ∀ z ∈ xs, pixelKey z y ≠ pixelKey x y := by
        intro z hz e
        obtain ⟨rfl, -⟩ := pixelKey_inj (hxs z (List.mem_cons_of_mem _ hz)) (hxs x List.mem_cons_self) e
        exact hmem hz
      rw [foldl_pixels_read_ne f xs _ hne, Store.read_write_same]

/-- A composed line holds its shades (R489). -/
theorem pixelAt_composeLine (s : State) (y : Nat) (hx : x < 160) :
    pixelAt (composeLine y s) x y = pixelShade s (selectSprites s y) x y := by
  unfold pixelAt
  rw [composeLine_pixels, linePixels]
  exact foldl_pixels_read _ (fun z hz => List.mem_range.1 hz) _ (List.mem_range.2 hx)

/-- No other line is touched. -/
theorem pixelAt_composeLine_ne (s : State) {y y' : Nat} (hx : x < 160) (hne : y' ≠ y) :
    pixelAt (composeLine y s) x y' = pixelAt s x y' := by
  unfold pixelAt
  rw [composeLine_pixels, linePixels]
  refine foldl_pixels_read_ne _ _ _ (fun z hz e => hne ?_)
  exact (pixelKey_inj (List.mem_range.1 hz) hx e).2.symm

/-! ### Tiles and palettes -/

theorem toNat_bitOf (v : Byte) (i : Nat) : (BitVec.ofBool (bitOf v i)).toNat = v.toNat / 2 ^ i % 2 := by
  rw [BitVec.toNat_ofBool]
  exact Nat.toNat_testBit _ _

/-- The two bit planes of a tile's row (R490). -/
theorem toNat_tileIndex (s : State) (tn : Byte) (row col : Nat) (u : Bool) : (tileIndex s tn row col u).toNat =
    2 * ((vramByte s (tileBase tn u + 2 * row + 1)).toNat / 2 ^ (7 - col) % 2) +
      (vramByte s (tileBase tn u + 2 * row)).toNat / 2 ^ (7 - col) % 2 := by
  unfold tileIndex
  rw [toNat_append_eq_add, toNat_bitOf, toNat_bitOf]
  rfl

/-- A palette holds four shades of two bits (R497). -/
theorem toNat_palette (p : Byte) (i : BitVec 2) : (palette p i).toNat = p.toNat / 4 ^ i.toNat % 4 := by
  unfold palette
  rw [BitVec.extractLsb'_toNat, Nat.shiftRight_eq_div_pow, Nat.pow_mul]

/-- VRAM as the CPU reads it (R87, R490). -/
theorem vramByte_eq_readByte (s : State) {a : Word} (hlo : 0x8000 ≤ a.toNat) (hhi : a.toNat ≤ 0x9FFF) :
    vramByte s a.toNat = readByte s a := by
  have hcell : cellOf a = a.toNat := if_neg (by omega)
  rw [readByte_plain s (isPlain_of_range (.inl ⟨hlo, hhi⟩)), hcell]
  rfl

/-! ### Background and window -/

theorem windowCovers_iff : windowCovers s x y = true ↔
    (s.ppu.lcdc.getLsbD 0 = true ∧ s.ppu.lcdc.getLsbD 5 = true) ∧ s.ppu.wy.toNat ≤ y ∧ s.ppu.wx.toNat ≤ x + 7 := by
  simp [windowCovers, lcdcBit, bitOf, and_assoc]

theorem bgWinIndex_off (h : ¬s.ppu.lcdc.getLsbD 0 = true) : bgWinIndex s x y = 0 := by
  have hwin : ¬windowCovers s x y = true := fun hw => h (windowCovers_iff.1 hw).1.1
  rw [bgWinIndex, if_neg hwin, bgIndex]
  exact if_neg h

theorem bgWinIndex_window (h : windowCovers s x y = true) : bgWinIndex s x y =
    mapIndex s (lcdcBit s 6) (x + 7 - s.ppu.wx.toNat) (y - s.ppu.wy.toNat) := if_pos h

theorem bgWinIndex_background (hon : s.ppu.lcdc.getLsbD 0 = true) (h : ¬windowCovers s x y = true) :
    bgWinIndex s x y = mapIndex s (lcdcBit s 3) ((x + s.ppu.scx.toNat) % 256) ((y + s.ppu.scy.toNat) % 256) := by
  rw [bgWinIndex, if_neg h, bgIndex]
  exact if_pos hon

end Sys2Proof.Machine

open Sys2Proof Sys2Proof.Machine

/-- Settles O47: the 160 keys of a line are distinct and no other line's. -/
theorem composeLineWritesItsLine : Obligations.ComposeLineWritesItsLine := by
  intro s x y hx
  refine ⟨?_, fun y' hne => pixelAt_composeLine_ne s hx hne, rfl⟩
  rw [pixelAt_composeLine s y hx, pixelShade]
  cases spritePixel s (selectSprites s y) x y (bgWinIndex s x y) <;> rfl

/-- Settles O48: the window's map where the window covers the pixel, else the scrolled background's. -/
theorem backgroundAndWindow : Obligations.BackgroundAndWindow := by
  intro s x y p i on tile map
  have hmap (j px py : Nat) : (mapIndex s (lcdcBit s j) px py).toNat = tile (map j) px py :=
    toNat_tileIndex s _ _ _ _
  refine ⟨fun hoff => ?off, fun hon hwin hwy hwx => ?window, fun hon hout => ?background, toNat_palette p i,
    fun a => vramByte_eq_readByte s⟩
  case off => rw [bgWinIndex_off hoff]; rfl
  case window => rw [bgWinIndex_window (windowCovers_iff.2 ⟨⟨hon, hwin⟩, hwy, hwx⟩), hmap]
  case background =>
    have huncovered : ¬windowCovers s x y = true := fun hw => by
      obtain ⟨⟨-, hwin⟩, hwy, hwx⟩ := windowCovers_iff.1 hw
      exact hout ⟨hwin, hwy, hwx⟩
    rw [bgWinIndex_background hon huncovered, hmap]

end

section
/-! The sprites of a line (62_ppu.md R493-R496): OAM's entries, the ten first that meet the line, and the one that
decides a column. -/

namespace Sys2Proof.Machine

variable {s : State} {x y : Nat} {p : Sprite}

/-! ### Selection -/

/-- The first `m` of the numbers below `n` that satisfy a test are those with fewer than `m` such numbers before
them. -/
theorem mem_take_filter_range (q : Nat → Bool) (m n i : Nat) :
    i ∈ ((List.range n).filter q).take m ↔ i < n ∧ q i = true ∧ ((List.range i).filter q).length < m := by
  induction n with
  | zero => simp
  | succ n ih =>
    have hlast : i ∈ ([n].filter q).take (m - ((List.range n).filter q).length) ↔
        i = n ∧ q i = true ∧ ((List.range i).filter q).length < m := by
      constructor
      · intro hi
        obtain ⟨hin, hq⟩ := List.mem_filter.1 (List.mem_of_mem_take hi)
        obtain rfl := List.mem_singleton.1 hin
        refine ⟨rfl, hq, Nat.lt_of_not_le fun hle => ?_⟩
        rw [Nat.sub_eq_zero_of_le hle, List.take_zero] at hi
        cases hi
      · rintro ⟨rfl, hq, hlt⟩
        rw [List.filter_cons_of_pos hq, List.filter_nil, List.take_of_length_le (Nat.sub_pos_of_lt hlt)]
        exact List.mem_singleton_self i
    rw [List.range_succ, List.filter_append, List.take_append, List.mem_append, ih, hlast, Nat.lt_succ_iff_lt_or_eq,
      or_and_right]

/-- The numbers of the sprites of line `y`, before LCDC[1] is looked at (R494). -/
def spriteOrder (s : State) (y : Nat) : List Nat :=
  ((List.range spriteCount).filter (fun i => spriteOnLine (spriteHeight s) y (spriteAt s i))).take maxSpritesPerLine

theorem spriteOrder_pairwise (s : State) (y : Nat) : (spriteOrder s y).Pairwise (· < ·) :=
  (List.pairwise_lt_range.filter _).sublist (List.take_sublist _ _)

theorem selectSprites_eq (s : State) (y : Nat) :
    selectSprites s y = if s.ppu.lcdc.getLsbD 1 then (spriteOrder s y).map (spriteAt s) else [] := by
  rw [spriteOrder, List.map_take]
  unfold selectSprites
  rw [List.filter_map]
  rfl

/-- An entry is four bytes of OAM (R493). -/
theorem spriteAt_eq (s : State) {i : Nat} (h : i < 40) : spriteAt s i =
    { y := (readByte s (BitVec.ofNat 16 (oamBase + (4 * i)))).toNat
      x := (readByte s (BitVec.ofNat 16 (oamBase + (4 * i + 1)))).toNat
      tile := readByte s (BitVec.ofNat 16 (oamBase + (4 * i + 2)))
      attr := readByte s (BitVec.ofNat 16 (oamBase + (4 * i + 3))) } := by
  rw [readByte_oam s (by omega), readByte_oam s (by omega), readByte_oam s (by omega), readByte_oam s (by omega)]
  rfl

/-! ### The sprite that decides -/

/-- Sprites that are transparent at the column do not decide it (R495). -/
theorem spritePixel_transparent {pre : List Sprite} (h : ∀ q ∈ pre, spriteIndex s x y q = 0) (rest : List Sprite)
    (bi : BitVec 2) : spritePixel s (pre ++ rest) x y bi = spritePixel s rest x y bi := by
  induction pre with
  | nil => rfl
  | cons q pre ih =>
    rw [List.forall_mem_cons] at h
    rw [List.cons_append, spritePixel, if_pos h.1, ih h.2]

/-- The first opaque sprite shows, or hides behind the index below it (R496). -/
theorem spritePixel_opaque (h : spriteIndex s x y p ≠ 0) (post : List Sprite) (bi : BitVec 2) :
    spritePixel s (p :: post) x y bi =
      if p.attr.getLsbD 7 = true ∧ bi ≠ 0 then none
      else some (palette (if p.attr.getLsbD 4 then s.ppu.obp1 else s.ppu.obp0) (spriteIndex s x y p)) := by
  rw [spritePixel, if_neg h]
  exact if_congr (by rw [Bool.and_eq_true, decide_eq_true_eq, bitOf]) rfl rfl

/-! ### The pixel of a sprite -/

/-- The tile of a sprite's first row (R495). -/
def spriteTile (s : State) (p : Sprite) : Byte := if spriteHeight s = 16 then p.tile &&& 0xFE else p.tile

/-- The row of the sprite at line `y`, flipped as its flip bit says (R495). -/
def spriteRow (s : State) (p : Sprite) (y : Nat) : Nat :=
  if p.attr.getLsbD 6 then spriteHeight s - 1 - (y + 16 - p.y) else y + 16 - p.y

/-- The column of the sprite at column `x` of the screen, flipped as its flip bit says (R495). -/
def spriteColumn (p : Sprite) (x : Nat) : Nat := if p.attr.getLsbD 5 then 7 - (x + 8 - p.x) else x + 8 - p.x

theorem spriteIndex_outside (h : ¬(p.x ≤ x + 8 ∧ x + 8 < p.x + 8)) : spriteIndex s x y p = 0 := if_neg h

theorem spriteIndex_inside (h : p.x ≤ x + 8 ∧ x + 8 < p.x + 8) : spriteIndex s x y p =
    tileIndex s (spriteTile s p + trunc8 (spriteRow s p y / 8)) (spriteRow s p y % 8) (spriteColumn p x) true :=
  if_pos h

theorem toNat_spriteTile (s : State) (p : Sprite) : (spriteTile s p).toNat =
    if spriteHeight s = 16 then p.tile.toNat / 2 * 2 else p.tile.toNat := by
  have heven : ∀ b : Byte, (b &&& 0xFE).toNat = b.toNat / 2 * 2 := by decide +kernel
  unfold spriteTile
  split
  · exact heven _
  · rfl

theorem spriteHeight_cases (s : State) : spriteHeight s = 16 ∨ spriteHeight s = 8 := by
  unfold spriteHeight
  split
  · exact .inl rfl
  · exact .inr rfl

/-- The rows of a sprite lie in its tile, or in its two tiles of an 8x16 sprite: no tile number wraps. -/
theorem toNat_spriteTile_add (hlo : p.y ≤ y + 16) (hhi : y + 16 < p.y + spriteHeight s) :
    (spriteTile s p + trunc8 (spriteRow s p y / 8)).toNat = (spriteTile s p).toNat + spriteRow s p y / 8 := by
  have htile := p.tile.isLt
  have hrow : spriteRow s p y < spriteHeight s := by
    unfold spriteRow
    split <;> omega
  rw [BitVec.toNat_add, toNat_trunc8, toNat_spriteTile]
  rcases spriteHeight_cases s with htall | hshort
  · rw [if_pos htall]
    omega
  · rw [if_neg (by omega)]
    omega

/-- A sprite's index at one of its columns: the bit planes of its row (R495). -/
theorem toNat_spriteIndex (hlo : p.y ≤ y + 16) (hhi : y + 16 < p.y + spriteHeight s)
    (h : p.x ≤ x + 8 ∧ x + 8 < p.x + 8) : (spriteIndex s x y p).toNat =
    2 * ((vramByte s (0x8000 + 16 * (spriteTile s p).toNat + 2 * spriteRow s p y + 1)).toNat /
      2 ^ (7 - spriteColumn p x) % 2) +
    (vramByte s (0x8000 + 16 * (spriteTile s p).toNat + 2 * spriteRow s p y)).toNat /
      2 ^ (7 - spriteColumn p x) % 2 := by
  have hbase : tileBase (spriteTile s p + trunc8 (spriteRow s p y / 8)) true + 2 * (spriteRow s p y % 8) =
      0x8000 + 16 * (spriteTile s p).toNat + 2 * spriteRow s p y := by
    rw [tileBase, if_pos rfl, toNat_spriteTile_add hlo hhi]
    omega
  rw [spriteIndex_inside h, toNat_tileIndex, hbase]

end Sys2Proof.Machine

open Sys2Proof Sys2Proof.Machine

/-- Settles O49: selection takes the first ten of the sprites that meet the line; the first opaque one decides. -/
theorem spriteSelectionAndPixel : Obligations.SpriteSelectionAndPixel := by
  intro s y h meets
  refine ⟨⟨spriteOrder s y, spriteOrder_pairwise s y, fun i => ?order, selectSprites_eq s y⟩,
    fun i hi => spriteAt_eq s hi, fun x bi pre post p => ⟨fun hpre => ?none, fun hpre hp => ?first,
      fun _ _ hout => spriteIndex_outside hout, fun hlo hhi hxlo hxhi => ?inside⟩⟩
  case order =>
    have hmeets : (fun i => spriteOnLine (spriteHeight s) y (spriteAt s i)) = meets :=
      funext fun i => (Bool.decide_and _ _).symm
    rw [spriteOrder, hmeets]
    exact mem_take_filter_range meets 10 40 i
  case none =>
    have hskip := spritePixel_transparent hpre [] bi
    rwa [List.append_nil] at hskip
  case first => exact (spritePixel_transparent hpre _ bi).trans (spritePixel_opaque hp post bi)
  case inside =>
    have hindex := toNat_spriteIndex (s := s) hlo hhi ⟨hxlo, hxhi⟩
    rw [toNat_spriteTile] at hindex
    exact hindex

end
